-- ==== Sys2Proof/Word.lean ====
section
/-! DEFINITION. Word.lean: the words of the links and the bytes of memory. -/

namespace Sys2Proof

/-- A word of a requester link, a physical byte address, an offset: 32 bits (Chapter 10, R153). -/
abbrev Word := BitVec 32

/-- One byte of memory. -/
abbrev Byte := BitVec 8

/-- One beat of the memory port's 64 data lines (R144, R145). -/
abbrev Lines := BitVec 64

end Sys2Proof
end

