-- ==== Sys2Proof/Config.lean ====
section
/-! DEFINITION. Config.lean: the fixed figures of the part (00_scope.md, "Principal figures") and the one free value. -/

namespace Sys2Proof.Config

/-- Entries of the Post Queue (R119). -/
abbrev postQueueDepth : Nat := 16

/-- Contexts of one port's stack (R78). -/
abbrev stackDepth : Nat := 8

/-- Notices of one port's queue (R175). -/
abbrev noticeDepth : Nat := 8

/-- Links one placement follows at most (R69). -/
abbrev hopLimit : Nat := 4

/-- Memory-port clock periods a response timer starts with (R147). -/
abbrev responseTimeout : Nat := 65536

/-- Highest discard tally (R113). -/
abbrev maxTally : Nat := 15

/-- Longest segment, in bytes (R1). -/
abbrev maxSegmentLength : Nat := 16777216

/-- Highest offset an OPEN or a SEEK may give (R156). -/
abbrev maxOffset : Nat := 16777215

/-- FREE VALUE (log entry 1): the offset a cursor holds after an advance whose exact result lies outside the
signed 32-bit range R32 gives the offset. Applied to the counter State.freeCount; nothing is known of it. -/
opaque freeOffset : Nat → Word

end Sys2Proof.Config
end

