-- ==== Sys2Proof/Syntax.lean ====
section
/-! DEFINITION. Syntax.lean: the commands, one constructor for each row of spec/opcode_table.json. A request row
carries the port it arrives on and exactly the frame fields that request reads (R183), each as wide as Chapter 10
makes it, so that a value out of range is still a command (the part answers it BAD_ARGUMENT, R185). An event row
carries what the outside supplies at the event. -/

namespace Sys2Proof

/-- A requester port, RP0 to RP3. -/
abbrev Port := Fin 4

/-- The number of a cursor within its port (R31). -/
abbrev CursorNo := Fin 8

/-- A segment number (R1). -/
abbrev Seg := Fin 128

/-- A memory tag (R137). -/
abbrev TagNo := Fin 8

/-- A command: a request frame taken on a port, or an event of the part (opcode_table.json). -/
inductive Instr
  /-- OPEN (R37, R38): placement word (stride, segment), offset word, generation word when flag GEN is set. -/
  | openCursor (p : Port) (target : BitVec 4) (stride : BitVec 16) (segment : BitVec 8) (offset : Word)
      (generation : Option (BitVec 8))
  /-- CLOSE (R52). -/
  | closeCursor (p : Port) (target : BitVec 4)
  /-- SEEK (R50, R51): offset word, stride word when flag STR is set. -/
  | seek (p : Port) (target : BitVec 4) (offset : Word) (stride : Option (BitVec 16))
  /-- READ (R40): SIZE code. -/
  | read (p : Port) (target : BitVec 4) (size : BitVec 3)
  /-- WRITE (R40, R122): SIZE code and the frame's data words. -/
  | write (p : Port) (target : BitVec 4) (size : BitVec 3) (data : List Word)
  /-- QUERY_CURSOR (R54): part selector. -/
  | queryCursor (p : Port) (target : BitVec 4) (part : BitVec 8)
  /-- PUSH (R82). -/
  | push (p : Port) (target : BitVec 4)
  /-- POP (R84): k in PARAM. -/
  | pop (p : Port) (target : BitVec 4) (k : BitVec 8)
  /-- DROP (R89). -/
  | drop (p : Port)
  /-- STAGE (R13): each editable field whose flag is set; rights holds bits 15:8 of the attributes word. -/
  | stage (p : Port) (base : Option Word) (length : Option Word) (link : Option (BitVec 8))
      (rights : Option (BitVec 8)) (depth : Option (BitVec 7)) (keep : Option Bool)
  /-- COMMIT (R14): segment word. -/
  | commit (p : Port) (segment : BitVec 8)
  /-- RETIRE (R20): mode in PARAM, segment word. -/
  | retire (p : Port) (mode : BitVec 8) (segment : BitVec 8)
  /-- QUERY_SEGMENT (R29): part in PARAM, segment word. -/
  | querySegment (p : Port) (part : BitVec 8) (segment : BitVec 8)
  /-- FETCH_NOTICE (R179). -/
  | fetchNotice (p : Port)
  /-- SET_PORT (R160): each setting whose flag is set. -/
  | setPort (p : Port) (target : BitVec 4) (authority : Option (BitVec 2)) (priority : Option (BitVec 2))
      (limit : Option (BitVec 5)) (interval : Option (BitVec 2))
  /-- RELEASE_PORT (R167). -/
  | releasePort (p : Port) (target : BitVec 4)
  /-- RESET_PORT (R169). -/
  | resetPort (p : Port) (target : BitVec 4)
  /-- BAD_REQUEST (R154): a frame of an unknown code or of a wrong length, as its words arrived. -/
  | badRequest (p : Port) (frame : List Word)
  /-- PLACEMENT_SERVICE (R63): an event of the Placement Engine's own. -/
  | placementService
  /-- GRANT (R141): an event of the Memory Port's own; memReady is the level of MP_RDY at the event. -/
  | grant (memReady : Bool)
  /-- RESPONSE_FIRST_BEAT (R145): the first beat on the response channel: tag, status line, data lines. -/
  | responseFirstBeat (tag : TagNo) (error : Bool) (data : Lines)
  /-- MEMORY_RESPONSE (R146): a whole response: tag and status of its first beat, the data lines of all its beats. -/
  | memoryResponse (tag : TagNo) (error : Bool) (beats : List Lines)
  /-- LATE_OR_STRAY_RESPONSE (R148): a whole response that names a tag that is not BUSY. -/
  | lateOrStrayResponse (tag : TagNo) (error : Bool) (beats : List Lines)
  /-- RESPONSE_TIMER_EXPIRY (R147). -/
  | responseTimerExpiry (tag : TagNo)
  /-- DISCARD_TIMER_EXPIRY (R112). -/
  | discardTimerExpiry (p : Port) (c : CursorNo)
  /-- DEVICE_RESET (R173): bit n of straps is the level of RPn_TSTRAP when the reset ends. -/
  | deviceReset (straps : BitVec 4)
  /-- RESPONSE_LAST_WORD_PASSED (R153). -/
  | responseLastWordPassed (p : Port)
  deriving DecidableEq, Repr

end Sys2Proof
end

