-- ==== Sys2Proof/Decode.lean ====
section
/-! DEFINITION. Decode.lean: request frames (Chapter 10): reading a frame's words into a command (R154, R183, R184)
and writing a command's frame; and decodeTableWord, which answers none, since no row of opcode_table.json gives
bits. -/

namespace Sys2Proof

/-- Header bits 7:0. -/
def Frame.code (h : Word) : BitVec 8 := h.extractLsb' 0 8

/-- Header bits 11:8. -/
def Frame.target (h : Word) : BitVec 4 := h.extractLsb' 8 4

/-- Header bits 14:12. -/
def Frame.size (h : Word) : BitVec 3 := h.extractLsb' 12 3

/-- Header bits 23:16; bit n of the result is header bit 16 + n. -/
def Frame.flags (h : Word) : BitVec 8 := h.extractLsb' 16 8

/-- Header bits 31:24. -/
def Frame.param (h : Word) : BitVec 8 := h.extractLsb' 24 8

/-- A request header: bit 15 is reserved and sent as 0. -/
def Frame.header (code : BitVec 8) (target : BitVec 4) (size : BitVec 3) (flags param : BitVec 8) : Word :=
  param ++ flags ++ (0 : BitVec 1) ++ size ++ target ++ code

/-- Argument words a WRITE's SIZE code calls for; none for the undefined codes 4 to 7 (R184). -/
def Frame.writeWords (size : BitVec 3) : Option Nat :=
  if size.toNat ≤ 2 then some 1 else if size.toNat = 3 then some 2 else none

/-- Whether a WRITE frame's length passes check 1: as its SIZE code calls for, or, for an undefined code, any
length up to four words, header included (R184). -/
def Frame.writeLengthOk (size : BitVec 3) (data : List Word) : Bool :=
  match Frame.writeWords size with
  | some n => data.length == n
  | none => decide (data.length ≤ 3)

/-- One argument word when the flag announces it, and the words after it; none when the frame is too short. -/
def Frame.take (announced : Bool) (ws : List Word) : Option (Option Word × List Word) :=
  if announced then
    match ws with
    | w :: rest => some (some w, rest)
    | [] => none
  else some (none, ws)

/-- A field of an announced argument word: absent when its own flag is clear or the word is absent. -/
def Frame.field {α : Type} (announced : Bool) (w : Option Word) (get : Word → α) : Option α :=
  if announced then w.map get else none

/-- STAGE's argument words: base, length, then the attributes word (R184); none when the length is wrong. -/
def Frame.readStage (p : Port) (flags : BitVec 8) (ws : List Word) : Option Instr :=
  let f (n : Nat) : Bool := flags.getLsbD n
  match Frame.take (f 0) ws with
  | none => none
  | some (base, ws1) =>
    match Frame.take (f 1) ws1 with
    | none => none
    | some (len, ws2) =>
      match Frame.take (f 2 || f 3 || f 4 || f 5) ws2 with
      | some (attr, []) =>
        some (.stage p base len
          (Frame.field (f 2) attr (fun w => w.extractLsb' 0 8))
          (Frame.field (f 3) attr (fun w => w.extractLsb' 8 8))
          (Frame.field (f 4) attr (fun w => w.extractLsb' 16 7))
          (Frame.field (f 5) attr (fun w => w.getLsbD 24)))
      | _ => none

/-- SET_PORT's settings word (R184); none when the length is wrong. -/
def Frame.readSettings (p : Port) (target : BitVec 4) (flags : BitVec 8) (ws : List Word) : Option Instr :=
  let f (n : Nat) : Bool := flags.getLsbD n
  match Frame.take (f 0 || f 1 || f 2 || f 3) ws with
  | some (w, []) =>
    some (.setPort p target
      (Frame.field (f 0) w (fun w => w.extractLsb' 0 2))
      (Frame.field (f 1) w (fun w => w.extractLsb' 2 2))
      (Frame.field (f 2) w (fun w => w.extractLsb' 8 5))
      (Frame.field (f 3) w (fun w => w.extractLsb' 16 2)))
  | _ => none

/-- A frame by its request code (section 10.1); none when the code is unknown or the length wrong. Every field a
request does not use, every undefined flag and every reserved bit is ignored (R183). -/
def Frame.readRequest (p : Port) (h : Word) (args : List Word) : Option Instr :=
  let t := Frame.target h
  let flag0 := (Frame.flags h).getLsbD 0
  match (Frame.code h).toNat with
  | 0x01 =>
    match args with
    | [w1, w2] =>
      if flag0 then none else some (.openCursor p t (w1.extractLsb' 0 16) (w1.extractLsb' 16 8) w2 none)
    | [w1, w2, w3] =>
      if flag0 then
        some (.openCursor p t (w1.extractLsb' 0 16) (w1.extractLsb' 16 8) w2 (some (w3.extractLsb' 0 8)))
      else none
    | _ => none
  | 0x02 => if args.isEmpty then some (.closeCursor p t) else none
  | 0x03 =>
    match args with
    | [w1] => if flag0 then none else some (.seek p t w1 none)
    | [w1, w2] => if flag0 then some (.seek p t w1 (some (w2.extractLsb' 0 16))) else none
    | _ => none
  | 0x04 => if args.isEmpty then some (.read p t (Frame.size h)) else none
  | 0x05 =>
    if Frame.writeLengthOk (Frame.size h) args then some (.write p t (Frame.size h) args) else none
  | 0x06 => if args.isEmpty then some (.queryCursor p t (Frame.param h)) else none
  | 0x10 => if args.isEmpty then some (.push p t) else none
  | 0x11 => if args.isEmpty then some (.pop p t (Frame.param h)) else none
  | 0x12 => if args.isEmpty then some (.drop p) else none
  | 0x20 => Frame.readStage p (Frame.flags h) args
  | 0x21 =>
    match args with
    | [w] => some (.commit p (w.extractLsb' 0 8))
    | _ => none
  | 0x22 =>
    match args with
    | [w] => some (.retire p (Frame.param h) (w.extractLsb' 0 8))
    | _ => none
  | 0x23 =>
    match args with
    | [w] => some (.querySegment p (Frame.param h) (w.extractLsb' 0 8))
    | _ => none
  | 0x30 => if args.isEmpty then some (.fetchNotice p) else none
  | 0x40 => Frame.readSettings p t (Frame.flags h) args
  | 0x41 => if args.isEmpty then some (.releasePort p t) else none
  | 0x42 => if args.isEmpty then some (.resetPort p t) else none
  | _ => none

/-- The command a request frame on port p is: total, an unknown code or a wrong length being BAD_REQUEST (R154). -/
def parseFrame (p : Port) (frame : List Word) : Instr :=
  match frame with
  | [] => .badRequest p []
  | h :: args => (Frame.readRequest p h args).getD (.badRequest p frame)

/-- A word that holds v in its low bits and 0 above. -/
def Frame.lowWord {n : Nat} (v : BitVec n) : Word := v.setWidth 32

/-- STAGE's attributes word, an unflagged field sent as 0 (section 10.1). -/
def Frame.attributesWord (link : Option (BitVec 8)) (rights : Option (BitVec 8)) (depth : Option (BitVec 7))
    (keep : Option Bool) : Word :=
  (0 : BitVec 7) ++ BitVec.ofBool (keep.getD false) ++ (0 : BitVec 1) ++ depth.getD 0 ++ rights.getD 0 ++ link.getD 0

/-- SET_PORT's settings word, an unflagged setting sent as 0 (section 10.1). -/
def Frame.settingsWord (authority priority : Option (BitVec 2)) (limit : Option (BitVec 5))
    (interval : Option (BitVec 2)) : Word :=
  (0 : BitVec 14) ++ interval.getD 0 ++ (0 : BitVec 3) ++ limit.getD 0 ++ (0 : BitVec 4) ++ priority.getD 0 ++
    authority.getD 0

/-- Flags from their bits, bit 16 of the header first. -/
def Frame.flagBits (b0 b1 b2 b3 b4 b5 : Bool) : BitVec 8 :=
  (0 : BitVec 2) ++ BitVec.ofBool b5 ++ BitVec.ofBool b4 ++ BitVec.ofBool b3 ++ BitVec.ofBool b2 ++
    BitVec.ofBool b1 ++ BitVec.ofBool b0

/-- The frame of a request; none for an event, which no frame carries (section 10.1). -/
def encodeFrame (i : Instr) : Option (Port × List Word) :=
  match i with
  | .openCursor p t stride seg off gen =>
    some (p, Frame.header 0x01 t 0 (Frame.flagBits gen.isSome false false false false false) 0 ::
      ((0 : BitVec 8) ++ seg ++ stride) :: off :: (gen.map Frame.lowWord).toList)
  | .closeCursor p t => some (p, [Frame.header 0x02 t 0 0 0])
  | .seek p t off stride =>
    some (p, Frame.header 0x03 t 0 (Frame.flagBits stride.isSome false false false false false) 0 ::
      off :: (stride.map Frame.lowWord).toList)
  | .read p t size => some (p, [Frame.header 0x04 t size 0 0])
  | .write p t size data => some (p, Frame.header 0x05 t size 0 0 :: data)
  | .queryCursor p t part => some (p, [Frame.header 0x06 t 0 0 part])
  | .push p t => some (p, [Frame.header 0x10 t 0 0 0])
  | .pop p t k => some (p, [Frame.header 0x11 t 0 0 k])
  | .drop p => some (p, [Frame.header 0x12 0 0 0 0])
  | .stage p base len link rights depth keep =>
    some (p, Frame.header 0x20 0 0
        (Frame.flagBits base.isSome len.isSome link.isSome rights.isSome depth.isSome keep.isSome) 0 ::
      (base.toList ++ len.toList ++
        (if link.isSome || rights.isSome || depth.isSome || keep.isSome then
          [Frame.attributesWord link rights depth keep] else [])))
  | .commit p seg => some (p, [Frame.header 0x21 0 0 0 0, Frame.lowWord seg])
  | .retire p mode seg => some (p, [Frame.header 0x22 0 0 0 mode, Frame.lowWord seg])
  | .querySegment p part seg => some (p, [Frame.header 0x23 0 0 0 part, Frame.lowWord seg])
  | .fetchNotice p => some (p, [Frame.header 0x30 0 0 0 0])
  | .setPort p t authority priority limit interval =>
    some (p, Frame.header 0x40 t 0
        (Frame.flagBits authority.isSome priority.isSome limit.isSome interval.isSome false false) 0 ::
      (if authority.isSome || priority.isSome || limit.isSome || interval.isSome then
        [Frame.settingsWord authority priority limit interval] else []))
  | .releasePort p t => some (p, [Frame.header 0x41 t 0 0 0])
  | .resetPort p t => some (p, [Frame.header 0x42 t 0 0 0])
  | .badRequest p frame => some (p, frame)
  | .placementService => none
  | .grant _ => none
  | .responseFirstBeat _ _ _ => none
  | .memoryResponse _ _ _ => none
  | .lateOrStrayResponse _ _ _ => none
  | .responseTimerExpiry _ => none
  | .discardTimerExpiry _ _ => none
  | .deviceReset _ => none
  | .responseLastWordPassed _ => none

/-- The command a word spells by the table's bits: no row of opcode_table.json gives any bits, so none does. -/
def decodeTableWord (_nbits _w : Nat) : Option Instr := none

end Sys2Proof
end

