-- ==== Sys2Proof/Machine/State.lean ====
section
/-! DEFINITION. Machine/State.lean: every piece of state the spec gives the part, as plain data, and the state after
device reset. One group of fields for each block of 00_scope.md. -/

namespace Sys2Proof.Machine

/-- A cursor named by port and number, RPn.Cm (R31). -/
structure CursorId where
  port : Port
  cursor : CursorNo
  deriving DecidableEq, Repr

/-- One value for each of the 32 cursors, eight per port. -/
structure Grid (α : Type) where
  rows : Vector (Vector α 8) 4
  deriving DecidableEq, Repr

/-- The same value for every cursor. -/
def Grid.fill {α : Type} (x : α) : Grid α := ⟨Vector.replicate 4 (Vector.replicate 8 x)⟩

/-- An access size: 1, 2, 4 or 8 bytes (R40). -/
inductive AccessSize | b1 | b2 | b4 | b8
  deriving DecidableEq, Repr

/-- Life of a segment number (R1). -/
inductive SegState | free | live | retiring
  deriving DecidableEq, Repr

/-- One port's access to a segment (R1). -/
inductive Rights | none | read | readWrite
  deriving DecidableEq, Repr

/-- A descriptor record (R1). -/
structure Descriptor where
  state : SegState
  generation : BitVec 8
  base : Word
  length : Nat
  link : Option Seg
  rights : Vector Rights 4
  depth : Nat
  keep : Bool
  bindCount : Nat
  retiringPort : Option Port
  deriving DecidableEq, Repr

/-- A descriptor after device reset (R4). -/
def Descriptor.reset : Descriptor where
  state := .free
  generation := 0
  base := 0
  length := 0
  link := none
  rights := Vector.replicate 4 .none
  depth := 0
  keep := false
  bindCount := 0
  retiringPort := none

/-- Which end of its segment an EXHAUSTED cursor ran off (R31). -/
inductive Side | atEnd | atStart
  deriving DecidableEq, Repr

/-- Why a cursor is FAULTED (R31). -/
inductive FaultReason | generationMismatch | notLive | segmentRetiring | noRight | chainTooLong | revoked
  deriving DecidableEq, Repr

/-- A cursor's state (R34), with the field R31 makes present in that state only. -/
inductive CursorState
  | closed
  | binding (expected : Option (BitVec 8))
  | bound
  | exhausted (side : Side)
  | crossing
  | revalidating
  | faulted (reason : FaultReason)
  deriving DecidableEq, Repr

/-- A cursor record (R31). -/
structure Cursor where
  state : CursorState
  segment : Option Seg
  generation : BitVec 8
  offset : Word
  stride : BitVec 16
  writeRight : Bool
  deriving DecidableEq, Repr

/-- A CLOSED cursor: the values of R33. -/
def Cursor.closed : Cursor where
  state := .closed
  segment := none
  generation := 0
  offset := 0
  stride := 0
  writeRight := false

/-- Whether a context still matches its segment's record (R80). -/
inductive Mark | valid | stale | revoked
  deriving DecidableEq, Repr

/-- A saved context (R79). -/
structure Context where
  segment : Seg
  generation : BitVec 8
  offset : Word
  stride : BitVec 16
  writeRight : Bool
  side : Option Side
  mark : Mark
  deriving DecidableEq, Repr

/-- Whether a FILLING buffer's fill waits in the list or is at memory (R92). -/
inductive FillPos | waiting | inFlight
  deriving DecidableEq, Repr

/-- A read-ahead buffer, with the fields R92 makes present in each state: block base, fill size in bytes, void mark
and fill position, or data. -/
inductive Buffer
  | empty
  | filling (base : Word) (size : Nat) (void : Bool) (pos : FillPos)
  | valid (base : Word) (size : Nat) (data : List Byte)
  deriving DecidableEq, Repr

/-- A discard interval: 1,024, 16,384 or 262,144 link clock periods (R158). -/
inductive Interval | p1024 | p16384 | p262144
  deriving DecidableEq, Repr

/-- What a READY slot holds (R94). -/
inductive ReadResult
  | data (bytes : List Byte)
  | memoryError
  | memoryTimeout
  deriving DecidableEq, Repr

/-- A read completion slot (R94). Its discard timer runs exactly while the slot is READY (R111); timer is the
interval it was started with. -/
inductive Slot
  | empty
  | working (size : AccessSize)
  | ready (size : AccessSize) (result : ReadResult) (timer : Interval)
  deriving DecidableEq, Repr

/-- State of a Post Queue entry (R119); an ISSUED entry has its tag (R139). -/
inductive PostState
  | queued
  | issued (tag : TagNo)
  deriving DecidableEq, Repr

/-- A Post Queue entry (R119). -/
structure PostEntry where
  port : Port
  cursor : CursorNo
  addr : Word
  size : AccessSize
  data : List Byte
  segment : Seg
  offset : Word
  state : PostState
  deriving DecidableEq, Repr

/-- Kind and owner of a BUSY tag's request (R137): a MEMORY READ for a cursor's fill, or a MEMORY WRITE for the
Post Queue entry ISSUED under the tag. -/
inductive TagOwner
  | fill (id : CursorId)
  | write
  deriving DecidableEq, Repr

/-- A BUSY tag's response timer (R147): running, with the periods it was started with, or stopped by a first beat. -/
inductive RespTimer
  | running (periods : Nat)
  | stopped
  deriving DecidableEq, Repr

/-- A memory tag (R137). -/
inductive Tag
  | free
  | busy (owner : TagOwner) (byteCount : Nat) (timer : RespTimer)
  | abandoned
  deriving DecidableEq, Repr

/-- The mark that alternates tags between fills and writes (R142). -/
inductive Alternation | fillNext | writeNext
  deriving DecidableEq, Repr

/-- The response channel (R145): none in progress, one begun on a BUSY tag with its first beat's tag, status and
data lines, or one whose remaining beats are discarded. -/
inductive RespChannel
  | idle
  | begun (tag : TagNo) (error : Bool) (data : Lines)
  | discarding
  deriving DecidableEq, Repr

/-- Kind of a memory request (R144). -/
inductive MemKind | read | write
  deriving DecidableEq, Repr

/-- A memory request as it is transferred (R144); data lines for a write only. -/
structure MemRequest where
  kind : MemKind
  tag : TagNo
  addr : Word
  byteCount : Nat
  data : Option Lines
  deriving DecidableEq, Repr

/-- What a cursor waits for in its map queue: the origin of its placement (R39). -/
inductive Origin | opened | cross | revalidate
  deriving DecidableEq, Repr

/-- Why a posted write failed (R130). -/
inductive WriteFailure | memoryError | memoryTimeout
  deriving DecidableEq, Repr

/-- How a retirement ended (R23, R26). -/
inductive RetireHow | graceful | forced
  deriving DecidableEq, Repr

/-- A notice (R176). -/
inductive Notice
  | placementFailed (cursor : CursorNo) (segment : Seg) (reason : FaultReason) (origin : Origin)
  | revoked (segment : Seg) (cursors contexts : Nat)
  | readDiscarded (cursor : CursorNo) (segment : Seg) (offset : Word)
  | writeFailed (cursor : CursorNo) (segment : Seg) (offset : Word) (size : AccessSize) (reason : WriteFailure)
  | retireComplete (segment : Seg) (how : RetireHow)
  | portQuarantined (subject : Port)
  | portReleased
  deriving DecidableEq, Repr

/-- A port's notice queue, oldest first, and its overrun mark (R175). -/
structure NoticeQueue where
  items : List Notice
  overrun : Bool
  deriving DecidableEq, Repr

inductive Authority | ordinary | table
  deriving DecidableEq, Repr

inductive Priority | low | high
  deriving DecidableEq, Repr

inductive Status | active | quarantined
  deriving DecidableEq, Repr

/-- A staging record: a field is some value exactly when its staged mark is set (R12). -/
structure Staging where
  base : Option Word
  length : Option Word
  link : Option (Option Seg)
  rights : Option (Vector Rights 4)
  depth : Option Nat
  keep : Option Bool
  deriving DecidableEq, Repr

/-- A staging record with every mark clear. -/
def Staging.empty : Staging := ⟨none, none, none, none, none, none⟩

/-- A port record (R158). -/
structure PortRec where
  authority : Authority
  priority : Priority
  limit : Nat
  interval : Interval
  status : Status
  tally : Nat
  staging : Staging
  deriving DecidableEq, Repr

/-- A port record after device reset, its authority from the strap (R158, R159). -/
def PortRec.reset (authority : Authority) : PortRec where
  authority := authority
  priority := .low
  limit := 4
  interval := .p16384
  status := .active
  tally := 0
  staging := Staging.empty

/-- Reason codes of WAIT (R155). -/
inductive WaitCode | mapping | fetching | queueFull
  deriving DecidableEq, Repr

/-- The fields BAD_ARGUMENT names (section 10.2). -/
inductive ArgField
  | target | size | param | segment | offset | stride | next | rights | depth | authority | priority
  | discardLimit | discardInterval
  deriving DecidableEq, Repr

/-- The fields BAD_DESCRIPTOR names (section 10.2). -/
inductive DescField | base | length | depth | rights
  deriving DecidableEq, Repr

/-- Reason codes of REFUSED with their qualifiers (section 10.2). -/
inductive Reason
  | badRequest
  | badArgument (field : ArgField)
  | notAuthorized
  | quarantined
  | cursorInUse
  | cursorNotBound
  | cursorFaulted (reason : FaultReason)
  | cursorBusy
  | endOfSegment (side : Side)
  | boundary
  | misaligned
  | noWriteRight
  | outOfRange
  | readMismatch (pending : AccessSize)
  | memoryError
  | memoryTimeout
  | stackFull
  | stackEmpty
  | nothingStaged
  | badDescriptor (field : DescField)
  | segmentRetiring
  | notLive
  | lastAuthority
  deriving DecidableEq, Repr

/-- Notice kinds as FETCH_NOTICE reports them (section 10.2). -/
inductive NoticeKind
  | none | placementFailed | revoked | readDiscarded | writeFailed | retireComplete | portQuarantined | portReleased
  deriving DecidableEq, Repr

/-- State codes of DONE with their qualifiers (section 10.2). -/
inductive StateCode
  | noState
  | closed
  | binding
  | bound
  | exhausted (side : Side)
  | crossing
  | revalidating
  | faulted (reason : FaultReason)
  | active
  | quarantined
  | retireComplete
  | retirePending
  | notice (kind : NoticeKind)
  deriving DecidableEq, Repr

/-- A response (R155): only a DONE has an EDGE flag, an AUX field and data words (R186). -/
inductive Response
  | done (state : StateCode) (edge : Bool) (aux : BitVec 8) (data : List Word)
  | wait (code : WaitCode)
  | refused (reason : Reason)
  deriving DecidableEq, Repr

/-- A requester link (R153): the response owed, the words of a request frame partly received (R174), and the
requests the master presents while the request channel is not ready, in order (log entry 4). -/
structure Link where
  owed : Option Response
  receiving : List Word
  waiting : List Instr
  deriving DecidableEq, Repr

/-- The machine. -/
structure State where
  dt : Vector Descriptor 128
  cursors : Grid Cursor
  mapQueues : Vector (List CursorNo) 4
  markHigh : Port
  markLow : Port
  ctxStacks : Vector (List Context) 4
  buffers : Grid Buffer
  slots : Grid Slot
  fillList : List CursorId
  postQueue : List PostEntry
  tags : Vector Tag 8
  alternation : Alternation
  memRequest : Option MemRequest
  respChannel : RespChannel
  ports : Vector PortRec 4
  notices : Vector NoticeQueue 4
  links : Vector Link 4
  /-- The model's own (log entry 2): how many free values have been used. -/
  freeCount : Nat
  /-- The commands that wait, first in, first out. -/
  pending : List Instr
  deriving DecidableEq, Repr

/-- Reasons the machine stops: none. Every command of the spec has an effect in every state, and a request that
cannot be carried out is answered (R155). Safe. -/
inductive Fault
  deriving DecidableEq, Repr

/-- Reasons the model has no meaning for a command. -/
inductive Refusal
  /-- Raised by exec's arm of a command that has no meaning yet; no arm raises it. Safe. -/
  | notModelled (mnemonic : String)
  deriving DecidableEq, Repr

/-- The machine after device reset with every authority strap low, so that RP0 alone has TABLE authority (R159;
DESIGN CHOICE of the straps, log entry 6): R4, R33, R61, R62, R81, R96, R121, R140, R153, R158, R174, R181. -/
def State.reset : State where
  dt := Vector.replicate 128 Descriptor.reset
  cursors := Grid.fill Cursor.closed
  mapQueues := Vector.replicate 4 []
  markHigh := 3
  markLow := 3
  ctxStacks := Vector.replicate 4 []
  buffers := Grid.fill .empty
  slots := Grid.fill .empty
  fillList := []
  postQueue := []
  tags := Vector.replicate 8 .free
  alternation := .fillNext
  memRequest := none
  respChannel := .idle
  ports := #v[PortRec.reset .table, PortRec.reset .ordinary, PortRec.reset .ordinary, PortRec.reset .ordinary]
  notices := Vector.replicate 4 ⟨[], false⟩
  links := Vector.replicate 4 ⟨none, [], []⟩
  freeCount := 0
  pending := []

end Sys2Proof.Machine
end

