-- ==== Sys2Proof/Machine/Ops.lean ====
section
/-! DEFINITION. Machine/Ops.lean: reading and writing one piece of state, and the operations several commands share:
notices, bindings, map queues, cancellation, advance resolution, taking and answering a request. -/

namespace Sys2Proof.Machine

/-- The value at index i. -/
def fget {α : Type} {n : Nat} (v : Vector α n) (i : Fin n) : α := v[i.1]

/-- v with x at index i. -/
def fset {α : Type} {n : Nat} (v : Vector α n) (i : Fin n) (x : α) : Vector α n := v.set i.1 x i.2

/-- The value of one cursor. -/
def Grid.get {α : Type} (g : Grid α) (id : CursorId) : α := fget (fget g.rows id.port) id.cursor

/-- g with x for one cursor. -/
def Grid.set {α : Type} (g : Grid α) (id : CursorId) (x : α) : Grid α :=
  ⟨fset g.rows id.port (fset (fget g.rows id.port) id.cursor x)⟩

/-- The grid whose value for each cursor is f of that cursor. -/
def Grid.tabulate {α : Type} (f : CursorId → α) : Grid α :=
  ⟨Vector.ofFn (fun p => Vector.ofFn (fun c => f ⟨p, c⟩))⟩

/-- RP0 to RP3 in increasing order. -/
def allPorts : List Port := [0, 1, 2, 3]

/-- Cursors 0 to 7 in increasing order. -/
def allCursorNos : List CursorNo := [0, 1, 2, 3, 4, 5, 6, 7]

/-- Tags 0 to 7 in increasing order. -/
def allTags : List TagNo := [0, 1, 2, 3, 4, 5, 6, 7]

def State.desc (s : State) (S : Seg) : Descriptor := fget s.dt S
def State.setDesc (s : State) (S : Seg) (d : Descriptor) : State := { s with dt := fset s.dt S d }

def State.cursor (s : State) (id : CursorId) : Cursor := s.cursors.get id
def State.setCursor (s : State) (id : CursorId) (c : Cursor) : State := { s with cursors := s.cursors.set id c }

def State.mapQueue (s : State) (p : Port) : List CursorNo := fget s.mapQueues p
def State.setMapQueue (s : State) (p : Port) (q : List CursorNo) : State := { s with mapQueues := fset s.mapQueues p q }

/-- A port's stack, top first (R78). -/
def State.stack (s : State) (p : Port) : List Context := fget s.ctxStacks p
def State.setStack (s : State) (p : Port) (st : List Context) : State := { s with ctxStacks := fset s.ctxStacks p st }

def State.buffer (s : State) (id : CursorId) : Buffer := s.buffers.get id
def State.setBuffer (s : State) (id : CursorId) (b : Buffer) : State := { s with buffers := s.buffers.set id b }

def State.slot (s : State) (id : CursorId) : Slot := s.slots.get id
def State.setSlot (s : State) (id : CursorId) (x : Slot) : State := { s with slots := s.slots.set id x }

def State.tag (s : State) (t : TagNo) : Tag := fget s.tags t
def State.setTag (s : State) (t : TagNo) (x : Tag) : State := { s with tags := fset s.tags t x }

def State.port (s : State) (p : Port) : PortRec := fget s.ports p
def State.setPort (s : State) (p : Port) (r : PortRec) : State := { s with ports := fset s.ports p r }

def State.noticeQueue (s : State) (p : Port) : NoticeQueue := fget s.notices p
def State.setNotices (s : State) (p : Port) (q : NoticeQueue) : State := { s with notices := fset s.notices p q }

def State.link (s : State) (p : Port) : Link := fget s.links p
def State.setLink (s : State) (p : Port) (l : Link) : State := { s with links := fset s.links p l }

def State.setBuffers (s : State) (g : Grid Buffer) : State := { s with buffers := g }
def State.setFillList (s : State) (l : List CursorId) : State := { s with fillList := l }
def State.setPostQueue (s : State) (q : List PostEntry) : State := { s with postQueue := q }
def State.setAlternation (s : State) (a : Alternation) : State := { s with alternation := a }
def State.setMemRequest (s : State) (r : Option MemRequest) : State := { s with memRequest := r }
def State.setRespChannel (s : State) (c : RespChannel) : State := { s with respChannel := c }
def State.setPending (s : State) (q : List Instr) : State := { s with pending := q }
def State.setFreeCount (s : State) (n : Nat) : State := { s with freeCount := n }

/-- The attention line of a port (R180). -/
def State.attention (s : State) (p : Port) : Bool :=
  !(s.noticeQueue p).items.isEmpty || (s.noticeQueue p).overrun

/-- Whether a port's request channel signals ready: no response is owed on it (R153). -/
def State.requestReady (s : State) (p : Port) : Bool := (s.link p).owed.isNone

/-! ### Bytes and addresses -/

def AccessSize.bytes : AccessSize → Nat
  | .b1 => 1
  | .b2 => 2
  | .b4 => 4
  | .b8 => 8

/-- Whether two ranges of physical bytes share a byte (R120). -/
def overlap (a : Word) (an : Nat) (b : Word) (bn : Nat) : Bool :=
  decide (a.toNat < b.toNat + bn) && decide (b.toNat < a.toNat + an)

/-- Whether the first range lies inside the second (R97). -/
def inside (a : Word) (an : Nat) (b : Word) (bn : Nat) : Bool :=
  decide (b.toNat ≤ a.toNat) && decide (a.toNat + an ≤ b.toNat + bn)

/-- Whether a Post Queue entry overlaps the bytes a to a + n - 1 (R120). -/
def PostEntry.overlaps (e : PostEntry) (a : Word) (n : Nat) : Bool := overlap e.addr e.size.bytes a n

def PostState.isIssued : PostState → Bool
  | .queued => false
  | .issued _ => true

/-! ### Notices -/

/-- A notice joins the tail of a queue, or is dropped with the overrun mark set when the queue holds 8 (R178). -/
def NoticeQueue.push (q : NoticeQueue) (n : Notice) : NoticeQueue :=
  if q.items.length < Config.noticeDepth then { q with items := q.items ++ [n] } else { q with overrun := true }

/-- A notice is appended to a port's queue (R177, R178). -/
def State.notify (s : State) (p : Port) (n : Notice) : State := s.setNotices p ((s.noticeQueue p).push n)

/-! ### Bindings (R5 to R11) -/

/-- Whether a cursor in this state holds a binding (R34). -/
def CursorState.holdsBinding : CursorState → Bool
  | .bound => true
  | .exhausted _ => true
  | .revalidating => true
  | .closed => false
  | .binding _ => false
  | .crossing => false
  | .faulted _ => false

/-- Whether this is a mapping state (R34). -/
def CursorState.isMapping : CursorState → Bool
  | .binding _ => true
  | .crossing => true
  | .revalidating => true
  | .closed => false
  | .bound => false
  | .exhausted _ => false
  | .faulted _ => false

/-- Whether a cursor holds a binding on segment S. -/
def Cursor.holds (c : Cursor) (S : Seg) : Bool := c.state.holdsBinding && decide (c.segment = some S)

/-- Whether a context with this mark holds a binding (R80). -/
def Mark.holdsBinding : Mark → Bool
  | .valid => true
  | .stale => true
  | .revoked => false

/-- Whether a context holds a binding on segment S. -/
def Context.holds (x : Context) (S : Seg) : Bool := x.mark.holdsBinding && decide (x.segment = S)

/-- A freed descriptor: reset values, and the next generation (R21). -/
def Descriptor.freed (d : Descriptor) : Descriptor := { Descriptor.reset with generation := d.generation + 1 }

/-- A claim: the bind count increases by one (R8, R9). -/
def State.claim (s : State) (S : Seg) : State :=
  s.setDesc S { s.desc S with bindCount := (s.desc S).bindCount + 1 }

/-- Whether a release on this descriptor completes its graceful retirement (R23). -/
def Descriptor.completes (d : Descriptor) : Bool := decide (d.state = .retiring) && decide (d.bindCount = 1)

/-- A descriptor after a release: one binding fewer, or freed when that completes its retirement (R10, R23). A
release never reaches a FREE descriptor. -/
def Descriptor.released (d : Descriptor) : Descriptor :=
  match d.state with
  | .free => d
  | .live => { d with bindCount := d.bindCount - 1 }
  | .retiring => if d.bindCount = 1 then d.freed else { d with bindCount := d.bindCount - 1 }

/-- A release on segment S (R10): a retirement it completes sends RETIRE_COMPLETE(GRACEFUL) to the recorded
retiring port (R23). -/
def State.release (s : State) (S : Seg) : State :=
  let t := s.setDesc S (s.desc S).released
  if (s.desc S).completes then
    match (s.desc S).retiringPort with
    | some q => t.notify q (.retireComplete S .graceful)
    | none => t
  else t

/-- The release of whatever binding a cursor holds: none when its state holds none. -/
def State.releaseOf (s : State) (c : Cursor) : State :=
  if c.state.holdsBinding then
    match c.segment with
    | some S => s.release S
    | none => s
  else s

/-! ### Map queues (R58 to R60) -/

/-- A cursor joins the tail of its port's map queue (R59). -/
def State.joinQueue (s : State) (id : CursorId) : State := s.setMapQueue id.port (s.mapQueue id.port ++ [id.cursor])

/-- A cursor leaves its port's map queue, wherever it stands (R60). -/
def State.leaveQueue (s : State) (id : CursorId) : State :=
  s.setMapQueue id.port ((s.mapQueue id.port).filter (fun c => decide (c ≠ id.cursor)))

/-! ### Cancellation (R116, R117) -/

/-- The buffer a cancellation leaves: a VALID one stays for SEEK only; a WAITING fill is dropped, an IN_FLIGHT one
voided. -/
def Buffer.cancelled (keepValid : Bool) : Buffer → Buffer
  | .empty => .empty
  | .valid b n data => if keepValid then .valid b n data else .empty
  | .filling _ _ _ .waiting => .empty
  | .filling b n _ .inFlight => .filling b n true .inFlight

/-- A cancellation of one cursor's read activity: no notice, no tally change. -/
def State.cancelRead (s : State) (id : CursorId) (keepValid : Bool) : State :=
  ((s.setSlot id .empty).setBuffer id ((s.buffer id).cancelled keepValid)).setFillList
    (s.fillList.filter (fun x => decide (x ≠ id)))

/-- The buffer after its result was collected, discarded or hit: a VALID one stays only with keep on
(R98, R102, R112). -/
def Buffer.afterUse (keep : Bool) : Buffer → Buffer
  | .empty => .empty
  | .filling b n v pos => .filling b n v pos
  | .valid b n data => if keep then .valid b n data else .empty

/-- CLOSE of one cursor, also as port reset does it (R52, R57). -/
def State.closeCursor (s : State) (id : CursorId) : State :=
  match (s.cursor id).state with
  | .closed => s
  | _ => (((s.releaseOf (s.cursor id)).leaveQueue id).cancelRead id false).setCursor id Cursor.closed

/-! ### Offsets (R32) -/

/-- Whether an exact offset fits the signed 32 bits R32 gives it. -/
def offsetFits (x : Int) : Bool := decide (-2147483648 ≤ x) && decide (x ≤ 2147483647)

/-- A free offset (log entry 1), brought within the limits lo to hi that R32 sets for the state it is held in: every
offset in the limits is the value of some free value. -/
def freeOffsetIn (lo hi : Int) (n : Nat) : Word :=
  BitVec.ofInt 32 (lo + ((Config.freeOffset n).toNat : Int) % (hi - lo + 1))

/-- The offset a cursor holds for the exact offset x: x itself when it fits, else a free offset. -/
def State.heldOffset (s : State) (lo hi x : Int) : Word :=
  if offsetFits x then BitVec.ofInt 32 x else freeOffsetIn lo hi s.freeCount

/-- The state after heldOffset: a free value used is used up. -/
def State.spendOffset (s : State) (x : Int) : State :=
  if offsetFits x then s else s.setFreeCount (s.freeCount + 1)

/-! ### Advance resolution (R45 to R47) -/

/-- The results of advance resolution, with the exact offset the cursor comes to. -/
inductive Advance
  | bound (offset : Int)
  | crossing (target : Seg) (offset : Int)
  | exhausted (side : Side) (offset : Int)
  deriving DecidableEq, Repr

/-- The table of R45: x is the new offset. -/
def resolveAdvance (length : Nat) (link : Option Seg) (stride x : Int) : Advance :=
  if x < 0 then .exhausted .atStart x
  else if x < length then .bound x
  else if stride ≤ 0 then .exhausted .atEnd x
  else
    match link with
    | some T => .crossing T (x - length)
    | none => .exhausted .atEnd x

/-- Lowest and highest offset of an EXHAUSTED cursor on a segment of this length (R32). -/
def exhaustedLimits (length : Nat) : Side → Int × Int
  | .atEnd => (length, 2147483647)
  | .atStart => (-2147483648, -1)

/-- Advance resolution of a cursor on segment S by m strides, with what a crossing (R46) or exhaustion (R47)
brings about. -/
def State.advance (s : State) (id : CursorId) (S : Seg) (m : Nat) : State :=
  let c := s.cursor id
  let d := s.desc S
  match resolveAdvance d.length d.link c.stride.toInt (c.offset.toInt + m * c.stride.toInt) with
  | .bound x => s.setCursor id { c with state := .bound, offset := BitVec.ofInt 32 x }
  | .crossing T x =>
    (((s.spendOffset x).release S).setCursor id
      { c with state := .crossing, segment := some T, offset := s.heldOffset 0 2147483647 x }).joinQueue id
  | .exhausted side x =>
    (s.spendOffset x).setCursor id
      { c with
        state := .exhausted side
        offset := s.heldOffset (exhaustedLimits d.length side).1 (exhaustedLimits d.length side).2 x }

/-! ### Taking and answering a request (R153 to R157) -/

/-- A request of port p is taken and its response formed: it is owed until its last word has passed (R153). -/
def State.answer (s : State) (p : Port) (r : Response) : State := s.setLink p ⟨some r, [], (s.link p).waiting⟩

/-- A request presented on port p while its request channel is not ready: it waits on the link, behind those that
already wait there (R153, log entry 4). -/
def State.holdRequest (s : State) (p : Port) (i : Instr) : State :=
  s.setLink p { s.link p with waiting := (s.link p).waiting ++ [i] }

/-- Checks 2 to 4 of the general checks, in order; field is the first field found out of range (R156, R185). -/
def State.generalCheck (s : State) (p : Port) (field : Option ArgField) (needsTable quarantineTakes : Bool) :
    Option Reason :=
  match field with
  | some f => some (.badArgument f)
  | none =>
    if needsTable && decide ((s.port p).authority = .ordinary) then some .notAuthorized
    else if !quarantineTakes && decide ((s.port p).status = .quarantined) then some .quarantined
    else none

/-- The request i of port p: it waits on the link while a response is owed (R153); else it is judged by the general
checks and, passing them, carried out and answered. -/
def serve (i : Instr) (p : Port) (field : Option ArgField) (needsTable quarantineTakes : Bool)
    (body : State → State × Response) (s : State) : Host.Outcome State Fault Refusal :=
  if s.requestReady p then
    match s.generalCheck p field needsTable quarantineTakes with
    | some r => .next (s.answer p (.refused r))
    | none => .next ((body s).1.answer p (body s).2)
  else .next (s.holdRequest p i)

/-- The request i of port p refused at check 1: it changes nothing (R154); it waits like any other while a response
is owed (R153). -/
def refuseForm (i : Instr) (p : Port) (s : State) : Host.Outcome State Fault Refusal :=
  if s.requestReady p then .next (s.answer p (.refused .badRequest)) else .next (s.holdRequest p i)

end Sys2Proof.Machine
end

