-- ==== Sys2Proof/Machine/Operands.lean ====
section
/-! DEFINITION. Machine/Operands.lean: the operand fields of requests: their ranges (R185), what their codes stand
for, the bytes of data words, and the block a fill asks for. -/

namespace Sys2Proof.Machine

/-- The first field found out of range, in the order judged (R185). -/
def firstBad (checks : List (Bool × ArgField)) : Option ArgField := (checks.find? (fun x => x.1)).map (fun x => x.2)

def badCursor (t : BitVec 4) : Bool := decide (8 ≤ t.toNat)
def badPort (t : BitVec 4) : Bool := decide (4 ≤ t.toNat)
def badSize (z : BitVec 3) : Bool := decide (4 ≤ z.toNat)
def badCount (k : BitVec 8) : Bool := decide (16 ≤ k.toNat)
def badSelector (x : BitVec 8) : Bool := decide (2 ≤ x.toNat)
def badSegment (x : BitVec 8) : Bool := decide (128 ≤ x.toNat)
def badOffset (x : Word) : Bool := decide (Config.maxOffset < x.toNat)
def badStride (x : BitVec 16) : Bool := decide (x.toInt < -128) || decide (128 < x.toInt)
def badLink (x : BitVec 8) : Bool := decide (128 ≤ x.toNat) && decide (x.toNat ≤ 254)
def badDepth (x : BitVec 7) : Bool := decide (64 < x.toNat)
def badLimit (x : BitVec 5) : Bool := decide (16 ≤ x.toNat)
def badInterval (x : BitVec 2) : Bool := decide (3 ≤ x.toNat)
def badBinary (x : BitVec 2) : Bool := decide (2 ≤ x.toNat)

/-- The rights code of RPn in bits 15:8 of the attributes word. -/
def rightsCode (x : BitVec 8) (p : Port) : BitVec 2 := x.extractLsb' (2 * p.val) 2

def badRights (x : BitVec 8) : Bool := allPorts.any (fun p => decide (rightsCode x p = 3))

/-- A check of an optional field: an absent field is not judged (R183). -/
def optBad {α : Type} (bad : α → Bool) : Option α → Bool
  | some x => bad x
  | none => false

/-! ### Codes in range -/

def cursorNo (t : BitVec 4) : CursorNo := Fin.ofNat 8 t.toNat
def portNo (t : BitVec 4) : Port := Fin.ofNat 4 t.toNat
def segNo (x : BitVec 8) : Seg := Fin.ofNat 128 x.toNat

/-- The cursor of port p that TARGET names (R157). -/
def cursorOf (p : Port) (t : BitVec 4) : CursorId := ⟨p, cursorNo t⟩

/-- SIZE codes 0 to 3 (section 10.1). -/
def accessSize (z : BitVec 3) : AccessSize :=
  if z = 0 then .b1 else if z = 1 then .b2 else if z = 2 then .b4 else .b8

/-- The next field: 255 for absent (section 10.1). -/
def linkOf (x : BitVec 8) : Option Seg := if x = 255 then none else some (segNo x)

def rightsOf (x : BitVec 2) : Rights := if x = 0 then .none else if x = 1 then .read else .readWrite

/-- The four rights of an attributes word. -/
def rightsVec (x : BitVec 8) : Vector Rights 4 := Vector.ofFn (fun p => rightsOf (rightsCode x p))

def authorityOf (x : BitVec 2) : Authority := if x = 0 then .ordinary else .table
def priorityOf (x : BitVec 2) : Priority := if x = 0 then .low else .high
def intervalOf (x : BitVec 2) : Interval := if x = 0 then .p1024 else if x = 1 then .p16384 else .p262144

/-! ### Bytes in words, little-endian (R144, R145, R154) -/

/-- The low n bytes of a bit vector, lowest first. -/
def lowBytes {w : Nat} (v : BitVec w) (n : Nat) : List Byte :=
  (List.range n).map (fun i => v.extractLsb' (8 * i) 8)

/-- The number whose base-256 digits are the bytes, lowest first. -/
def bytesNat : List Byte → Nat
  | [] => 0
  | b :: bs => b.toNat + 256 * bytesNat bs

/-- The bytes of a WRITE: those above the datum are ignored (R154, R183). -/
def writeBytes (size : AccessSize) (data : List Word) : List Byte :=
  (data.flatMap (fun w => lowBytes w 4)).take size.bytes

/-- The data words of a READ: one word for 1, 2 or 4 bytes, zero above the datum, two for 8 (R154, R187). -/
def readWords (size : AccessSize) (bytes : List Byte) : List Word :=
  match size with
  | .b8 => [BitVec.ofNat 32 (bytesNat (bytes.take 4)), BitVec.ofNat 32 (bytesNat (bytes.drop 4))]
  | _ => [BitVec.ofNat 32 (bytesNat bytes)]

/-- Bytes on the 64 data lines, 0 above the last byte (R144). -/
def dataLines (bytes : List Byte) : Lines := BitVec.ofNat 64 (bytesNat bytes)

/-- The bytes a read's beats carry, in ascending order of address (R145). -/
def beatBytes (count : Nat) (beats : List Lines) : List Byte :=
  (beats.flatMap (fun b => lowBytes b 8)).take count

/-- The bytes of a block that a READ at address a names. -/
def blockBytes (base : Word) (data : List Byte) (a : Word) (n : Nat) : List Byte :=
  (data.drop (a.toNat - base.toNat)).take n

/-! ### Places in a segment -/

/-- The physical address of a cursor's offset: segment base plus offset (R42). -/
def physical (d : Descriptor) (c : Cursor) : Word := d.base + c.offset

/-- The fill size of a miss: the depth, or with depth 0 the access's own size (R93). -/
def fillSize (d : Descriptor) (size : AccessSize) : Nat := if d.depth = 0 then size.bytes else d.depth

/-- The block base of a miss: the address rounded down to a multiple of the depth, or with depth 0 the address
itself (R93). -/
def blockBase (d : Descriptor) (a : Word) : Word :=
  if d.depth = 0 then a else BitVec.ofNat 32 (a.toNat - a.toNat % d.depth)

end Sys2Proof.Machine
end

