-- ==== Sys2Proof/Machine/Flags.lean ====
section
/-! DEFINITION. Machine/Flags.lean: the EDGE flag (R48), and the words of responses: header, codes, AUX field and
records (Chapter 10, R186, R187). -/

namespace Sys2Proof.Machine

/-- The EDGE test of R48 for a cursor in this state after the request. -/
def edgeFlag (length : Nat) (c : Cursor) : Bool :=
  decide (c.state = .bound) &&
    ((decide (0 < c.stride.toInt) && decide ((length : Int) - c.offset.toInt ≤ 16)) ||
      (decide (c.stride.toInt < 0) && decide (c.offset.toInt < 16)))

/-- The state code a cursor's state is reported by (section 10.2). -/
def CursorState.code : CursorState → StateCode
  | .closed => .closed
  | .binding _ => .binding
  | .bound => .bound
  | .exhausted side => .exhausted side
  | .crossing => .crossing
  | .revalidating => .revalidating
  | .faulted r => .faulted r

def Status.code : Status → StateCode
  | .active => .active
  | .quarantined => .quarantined

/-- A DONE that carries a state code and nothing else. -/
def Response.plain (code : StateCode) : Response := .done code false 0 []

/-- The DONE of an access: the cursor's state after it, EDGE, and the data words (R49). -/
def accessDone (length : Nat) (c : Cursor) (data : List Word) : Response :=
  .done c.state.code (edgeFlag length c) 0 data

/-- The AUX field: a count in bits 27:24, a mark in bits 29:28, the overrun mark in bit 31 (section 10.2). -/
def auxField (count : Nat) (mark : BitVec 2) (overrun : Bool) : BitVec 8 :=
  BitVec.ofBool overrun ++ (0 : BitVec 1) ++ mark ++ BitVec.ofNat 4 count

def Mark.code : Mark → BitVec 2
  | .valid => 1
  | .stale => 2
  | .revoked => 3

/-- The DONE of PUSH, POP or DROP (section 10.2). -/
def stackDone (code : StateCode) (count : Nat) (mark : Mark) : Response :=
  .done code false (auxField count mark.code false) []

/-! ### Response header (section 10.2) -/

def Side.qual : Side → BitVec 4
  | .atEnd => 1
  | .atStart => 2

def FaultReason.qual : FaultReason → BitVec 4
  | .generationMismatch => 1
  | .notLive => 2
  | .segmentRetiring => 3
  | .noRight => 4
  | .chainTooLong => 5
  | .revoked => 6

def AccessSize.code : AccessSize → BitVec 2
  | .b1 => 0
  | .b2 => 1
  | .b4 => 2
  | .b8 => 3

def ArgField.qual : ArgField → BitVec 4
  | .target => 1
  | .size => 2
  | .param => 3
  | .segment => 4
  | .offset => 5
  | .stride => 6
  | .next => 7
  | .rights => 8
  | .depth => 9
  | .authority => 10
  | .priority => 11
  | .discardLimit => 12
  | .discardInterval => 13

def DescField.qual : DescField → BitVec 4
  | .base => 1
  | .length => 2
  | .depth => 3
  | .rights => 4

def NoticeKind.code : NoticeKind → BitVec 8
  | .none => 0x10
  | .placementFailed => 0x11
  | .revoked => 0x12
  | .readDiscarded => 0x13
  | .writeFailed => 0x14
  | .retireComplete => 0x15
  | .portQuarantined => 0x16
  | .portReleased => 0x17

/-- CODE and QUAL of a DONE. -/
def StateCode.code : StateCode → BitVec 8 × BitVec 4
  | .noState => (0x00, 0)
  | .closed => (0x01, 0)
  | .binding => (0x02, 0)
  | .bound => (0x03, 0)
  | .exhausted side => (0x04, side.qual)
  | .crossing => (0x05, 0)
  | .revalidating => (0x06, 0)
  | .faulted r => (0x07, r.qual)
  | .active => (0x08, 0)
  | .quarantined => (0x09, 0)
  | .retireComplete => (0x0A, 0)
  | .retirePending => (0x0B, 0)
  | .notice k => (k.code, 0)

/-- CODE of a WAIT. -/
def WaitCode.code : WaitCode → BitVec 8
  | .mapping => 0x01
  | .fetching => 0x02
  | .queueFull => 0x03

/-- CODE and QUAL of a REFUSED. -/
def Reason.code : Reason → BitVec 8 × BitVec 4
  | .badRequest => (0x01, 0)
  | .badArgument f => (0x02, f.qual)
  | .notAuthorized => (0x03, 0)
  | .quarantined => (0x04, 0)
  | .cursorInUse => (0x05, 0)
  | .cursorNotBound => (0x06, 0)
  | .cursorFaulted r => (0x07, r.qual)
  | .cursorBusy => (0x08, 0)
  | .endOfSegment side => (0x09, side.qual)
  | .boundary => (0x0A, 0)
  | .misaligned => (0x0B, 0)
  | .noWriteRight => (0x0C, 0)
  | .outOfRange => (0x0D, 0)
  | .readMismatch size => (0x0E, size.code.setWidth 4)
  | .memoryError => (0x0F, 0)
  | .memoryTimeout => (0x10, 0)
  | .stackFull => (0x11, 0)
  | .stackEmpty => (0x12, 0)
  | .nothingStaged => (0x13, 0)
  | .badDescriptor f => (0x14, f.qual)
  | .segmentRetiring => (0x15, 0)
  | .notLive => (0x16, 0)
  | .lastAuthority => (0x17, 0)

/-- A response header word, reserved bits 0. -/
def headerWord (kind : BitVec 2) (edge : Bool) (code : BitVec 8) (qual : BitVec 4) (aux : BitVec 8) : Word :=
  aux ++ (0 : BitVec 4) ++ qual ++ code ++ (0 : BitVec 5) ++ BitVec.ofBool edge ++ kind

def Response.header : Response → Word
  | .done st edge aux _ => headerWord 0 edge st.code.1 st.code.2 aux
  | .wait w => headerWord 1 false w.code 0 0
  | .refused r => headerWord 2 false r.code.1 r.code.2 0

/-- The response frame: one header word and 0 to 2 data words (R155). -/
def Response.words : Response → List Word
  | .done st edge aux data => (Response.done st edge aux data).header :: data
  | .wait w => [(Response.wait w).header]
  | .refused r => [(Response.refused r).header]

/-! ### Records (section 10.3) -/

/-- A number in an 8-bit field, 255 for absent. -/
def segField : Option Seg → BitVec 8
  | some S => BitVec.ofNat 8 S.val
  | none => 255

def SegState.code : SegState → BitVec 2
  | .free => 0
  | .live => 1
  | .retiring => 2

def Rights.code : Rights → BitVec 2
  | .none => 0
  | .read => 1
  | .readWrite => 2

/-- Bits 15:8 of the attributes word: RP0 lowest. -/
def rightsField (r : Vector Rights 4) : BitVec 8 :=
  (fget r 3).code ++ (fget r 2).code ++ (fget r 1).code ++ (fget r 0).code

/-- A word that holds a generation in bits 7:0. -/
def generationWord (g : BitVec 8) : Word := g.setWidth 32

/-- STATUS word 0 of the segment record. -/
def segmentStatusWord (d : Descriptor) : Word :=
  (0 : BitVec 5) ++ BitVec.ofBool d.retiringPort.isSome ++ BitVec.ofNat 2 (d.retiringPort.getD 0).val ++
    (0 : BitVec 1) ++ BitVec.ofNat 7 d.bindCount ++ (0 : BitVec 6) ++ d.state.code ++ d.generation

/-- STATUS word 1: the layout of the STAGE attributes word. -/
def segmentAttributesWord (d : Descriptor) : Word :=
  (0 : BitVec 7) ++ BitVec.ofBool d.keep ++ (0 : BitVec 1) ++ BitVec.ofNat 7 d.depth ++ rightsField d.rights ++
    segField d.link

/-- PLACE word 1: generation, and length in units of 64 bytes. -/
def segmentLengthWord (d : Descriptor) : Word :=
  (0 : BitVec 5) ++ BitVec.ofNat 19 (d.length / 64) ++ d.generation

/-- POSITION word 0 of the cursor report. -/
def cursorPositionWord (c : Cursor) : Word := c.stride ++ c.generation ++ segField c.segment

def CursorState.sideField : CursorState → BitVec 2
  | .exhausted .atEnd => 1
  | .exhausted .atStart => 2
  | _ => 0

def CursorState.faultField : CursorState → BitVec 3
  | .faulted r => r.qual.setWidth 3
  | _ => 0

def CursorState.expected : CursorState → Option (BitVec 8)
  | .binding e => e
  | _ => none

def Slot.stateField : Slot → BitVec 2
  | .empty => 0
  | .working _ => 1
  | .ready _ _ _ => 2

def Slot.sizeField : Slot → BitVec 2
  | .empty => 0
  | .working z => z.code
  | .ready z _ _ => z.code

def Buffer.stateField : Buffer → BitVec 2
  | .empty => 0
  | .filling _ _ _ _ => 1
  | .valid _ _ _ => 2

def Buffer.voidField : Buffer → Bool
  | .filling _ _ v _ => v
  | _ => false

def Buffer.posField : Buffer → Bool
  | .filling _ _ _ .inFlight => true
  | _ => false

/-- A byte count as a code 0 to 6 (R144, section 10.3). -/
def countCode (n : Nat) : BitVec 3 :=
  if n = 1 then 0 else if n = 2 then 1 else if n = 4 then 2 else if n = 8 then 3 else if n = 16 then 4
  else if n = 32 then 5 else 6

def Buffer.countField : Buffer → BitVec 3
  | .empty => 0
  | .filling _ n _ _ => countCode n
  | .valid _ n _ => countCode n

def Buffer.baseField : Buffer → Word
  | .empty => 0
  | .filling b _ _ _ => b
  | .valid b _ _ => b

/-- CONDITION word 0 of the cursor report; word 1 is the block base. -/
def cursorConditionWord (c : Cursor) (slot : Slot) (buf : Buffer) : Word :=
  (0 : BitVec 5) ++ buf.countField ++ BitVec.ofBool buf.posField ++ BitVec.ofBool buf.voidField ++ buf.stateField ++
    slot.sizeField ++ slot.stateField ++ c.state.expected.getD 0 ++ BitVec.ofBool c.state.expected.isSome ++
    c.state.faultField ++ (0 : BitVec 1) ++ c.state.sideField ++ BitVec.ofBool c.writeRight

def Authority.code : Authority → BitVec 2
  | .ordinary => 0
  | .table => 1

def Priority.code : Priority → BitVec 2
  | .low => 0
  | .high => 1

def Interval.code : Interval → BitVec 2
  | .p1024 => 0
  | .p16384 => 1
  | .p262144 => 2

/-- The port report of SET_PORT. -/
def portReportWord (r : PortRec) : Word :=
  (0 : BitVec 4) ++ BitVec.ofNat 4 r.tally ++ (0 : BitVec 3) ++ BitVec.ofBool (decide (r.status = .quarantined)) ++
    (0 : BitVec 2) ++ r.interval.code ++ (0 : BitVec 3) ++ BitVec.ofNat 5 r.limit ++ (0 : BitVec 4) ++
    r.priority.code ++ r.authority.code

def Notice.kind : Notice → NoticeKind
  | .placementFailed _ _ _ _ => .placementFailed
  | .revoked _ _ _ => .revoked
  | .readDiscarded _ _ _ => .readDiscarded
  | .writeFailed _ _ _ _ _ => .writeFailed
  | .retireComplete _ _ => .retireComplete
  | .portQuarantined _ => .portQuarantined
  | .portReleased => .portReleased

def Origin.code : Origin → BitVec 2
  | .opened => 0
  | .cross => 1
  | .revalidate => 2

def WriteFailure.code : WriteFailure → BitVec 2
  | .memoryError => 1
  | .memoryTimeout => 2

def RetireHow.code : RetireHow → BitVec 1
  | .graceful => 0
  | .forced => 1

def segBits (S : Seg) : BitVec 8 := BitVec.ofNat 8 S.val
def cursorBits (c : CursorNo) : BitVec 4 := BitVec.ofNat 4 c.val

/-- The data words of a notice record (section 10.3). -/
def Notice.words : Notice → List Word
  | .placementFailed c S r o =>
    [(0 : BitVec 14) ++ o.code ++ (0 : BitVec 1) ++ (r.qual.setWidth 3 : BitVec 3) ++ cursorBits c ++ segBits S]
  | .revoked S n m =>
    [(0 : BitVec 4) ++ BitVec.ofNat 4 m ++ (0 : BitVec 4) ++ BitVec.ofNat 4 n ++ (0 : BitVec 8) ++ segBits S]
  | .readDiscarded c S off => [(0 : BitVec 20) ++ cursorBits c ++ segBits S, off]
  | .writeFailed c S off z r =>
    [(0 : BitVec 14) ++ z.code ++ (0 : BitVec 2) ++ r.code ++ cursorBits c ++ segBits S, off]
  | .retireComplete S how => [(0 : BitVec 15) ++ how.code ++ (0 : BitVec 8) ++ segBits S]
  | .portQuarantined p => [BitVec.ofNat 32 p.val]
  | .portReleased => []

end Sys2Proof.Machine
end

