-- ==== Sys2Proof/Machine/Access.lean ====
section
/-! DEFINITION. Machine/Access.lean: READ (Chapters 2 and 5) and WRITE (Chapters 2 and 6). -/

namespace Sys2Proof.Machine

/-- The state check of R40 and checks 1 and 2 of R41: the segment of a BOUND cursor whose access lies inside it and
is aligned, or the response that decides the request. -/
def accessCheck (s : State) (id : CursorId) (size : AccessSize) : Except Response Seg :=
  let c := s.cursor id
  match c.state with
  | .binding _ => .error (.wait .mapping)
  | .crossing => .error (.wait .mapping)
  | .revalidating => .error (.wait .mapping)
  | .closed => .error (.refused .cursorNotBound)
  | .faulted r => .error (.refused (.cursorFaulted r))
  | .exhausted side => .error (.refused (.endOfSegment side))
  | .bound =>
    match c.segment with
    | none => .error (.refused .cursorNotBound)
    | some S =>
      if ((s.desc S).length : Int) < c.offset.toInt + size.bytes then .error (.refused .boundary)
      else if c.offset.toNat % size.bytes ≠ 0 then .error (.refused .misaligned)
      else .ok S

/-- A DONE read: the cursor advances by one stride, the response carries the bytes (R43, R49). -/
def readDone (id : CursorId) (S : Seg) (size : AccessSize) (bytes : List Byte) (length : Nat) (s : State) :
    State × Response :=
  let t := s.advance id S 1
  (t, accessDone length (t.cursor id) (readWords size bytes))

/-- A hit (R98). -/
def readHit (id : CursorId) (S : Seg) (size : AccessSize) (bytes : List Byte) (s : State) : State × Response :=
  readDone id S size bytes (s.desc S).length (s.setBuffer id ((s.buffer id).afterUse (s.desc S).keep))

/-- A miss (R99). -/
def readMiss (id : CursorId) (S : Seg) (size : AccessSize) (s : State) : State × Response :=
  let d := s.desc S
  let a := physical d (s.cursor id)
  (((s.setSlot id (.working size)).setBuffer id (.filling (blockBase d a) (fillSize d size) false .waiting)).setFillList
      (s.fillList ++ [id]),
    .wait .fetching)

/-- A READ that finds a voided fill in flight retargets its buffer (R100). -/
def readRetarget (id : CursorId) (S : Seg) (size : AccessSize) (void : Bool) (pos : FillPos) (s : State) :
    State × Response :=
  let d := s.desc S
  let a := physical d (s.cursor id)
  ((s.setSlot id (.working size)).setBuffer id (.filling (blockBase d a) (fillSize d size) void pos),
    .wait .fetching)

/-- A collection sets the port's discard tally to 0 and empties the slot, stopping its timer (R102, R103, R163). -/
def State.collectSlot (s : State) (id : CursorId) : State :=
  (s.setSlot id .empty).setPort id.port { s.port id.port with tally := 0 }

/-- A collection of a READY slot (R102, R103). -/
def readCollect (id : CursorId) (S : Seg) (size : AccessSize) (result : ReadResult) (s : State) :
    State × Response :=
  match result with
  | .data bytes =>
    readDone id S size bytes (s.desc S).length
      ((s.collectSlot id).setBuffer id ((s.buffer id).afterUse (s.desc S).keep))
  | .memoryError => (s.collectSlot id, .refused .memoryError)
  | .memoryTimeout => (s.collectSlot id, .refused .memoryTimeout)

/-- A READ handed to the Read-Ahead Unit: the slot first, the buffer second (R97). -/
def readAhead (id : CursorId) (S : Seg) (size : AccessSize) (s : State) : State × Response :=
  match s.slot id with
  | .empty =>
    match s.buffer id with
    | .empty => readMiss id S size s
    | .valid base n data =>
      let a := physical (s.desc S) (s.cursor id)
      if inside a size.bytes base n then readHit id S size (blockBytes base data a size.bytes) s
      else readMiss id S size s
    | .filling _ _ void pos => readRetarget id S size void pos s
  | .working pending => if size = pending then (s, .wait .fetching) else (s, .refused (.readMismatch pending))
  | .ready pending result _ =>
    if size = pending then readCollect id S size result s else (s, .refused (.readMismatch pending))

/-- READ past the general checks (R40 to R42). -/
def readBody (id : CursorId) (size : AccessSize) (s : State) : State × Response :=
  match accessCheck s id size with
  | .error r => (s, r)
  | .ok S => readAhead id S size s

/-- READ (R40). -/
def execRead (p : Port) (target : BitVec 4) (size : BitVec 3) (s : State) : Host.Outcome State Fault Refusal :=
  serve (.read p target size) p (firstBad [(badCursor target, .target), (badSize size, .size)]) false false
    (readBody (cursorOf p target) (accessSize size)) s

/-- What the sweep of a new entry makes of one buffer (R124). -/
def Buffer.swept (e : PostEntry) : Buffer → Buffer
  | .empty => .empty
  | .valid b n data => if e.overlaps b n then .empty else .valid b n data
  | .filling b n v pos => if e.overlaps b n then .filling b n true pos else .filling b n v pos

/-- The sweep of every buffer of every port (R124). -/
def State.sweep (s : State) (e : PostEntry) : State :=
  s.setBuffers (Grid.tabulate (fun id => (s.buffer id).swept e))

/-- The entry an accepted WRITE makes (R123). -/
def postEntry (id : CursorId) (S : Seg) (size : AccessSize) (data : List Word) (s : State) : PostEntry where
  port := id.port
  cursor := id.cursor
  addr := physical (s.desc S) (s.cursor id)
  size := size
  data := writeBytes size data
  segment := S
  offset := (s.cursor id).offset
  state := .queued

/-- Acceptance (R123 to R125). -/
def writeAccept (id : CursorId) (S : Seg) (size : AccessSize) (data : List Word) (s : State) : State × Response :=
  let e := postEntry id S size data s
  let t := ((s.setPostQueue (s.postQueue ++ [e])).sweep e).advance id S 1
  (t, accessDone (s.desc S).length (t.cursor id) [])

/-- WRITE past the general checks: checks 3 and 4 of R41, then room in the Post Queue (R122). -/
def writeBody (id : CursorId) (size : AccessSize) (data : List Word) (s : State) : State × Response :=
  match accessCheck s id size with
  | .error r => (s, r)
  | .ok S =>
    if (s.cursor id).writeRight = false then (s, .refused .noWriteRight)
    else if s.slot id ≠ .empty then (s, .refused .cursorBusy)
    else if Config.postQueueDepth ≤ s.postQueue.length then (s, .wait .queueFull)
    else writeAccept id S size data s

/-- WRITE (R40, R122); the number of its data words is judged at check 1 (R184). -/
def execWrite (p : Port) (target : BitVec 4) (size : BitVec 3) (data : List Word) (s : State) :
    Host.Outcome State Fault Refusal :=
  if Frame.writeLengthOk size data then
    serve (.write p target size data) p (firstBad [(badCursor target, .target), (badSize size, .size)]) false false
      (writeBody (cursorOf p target) (accessSize size) data) s
  else refuseForm (.write p target size data) p s

end Sys2Proof.Machine
end

