-- ==== Sys2Proof/Machine/Cursors.lean ====
section
/-! DEFINITION. Machine/Cursors.lean: OPEN, CLOSE, SEEK and QUERY_CURSOR (Chapter 2). -/

namespace Sys2Proof.Machine

/-- OPEN past the general checks (R37, R38). -/
def openBody (id : CursorId) (S : Seg) (offset : Word) (stride : BitVec 16) (expected : Option (BitVec 8))
    (s : State) : State × Response :=
  let opened : Cursor :=
    { state := .binding expected, segment := some S, generation := 0, offset := offset, stride := stride,
      writeRight := false }
  match (s.cursor id).state with
  | .closed => ((s.setCursor id opened).joinQueue id, .plain .binding)
  | .faulted _ => ((s.setCursor id opened).joinQueue id, .plain .binding)
  | _ => (s, .refused .cursorInUse)

/-- OPEN (R37, R38). -/
def execOpen (p : Port) (target : BitVec 4) (stride : BitVec 16) (segment : BitVec 8) (offset : Word)
    (generation : Option (BitVec 8)) (s : State) : Host.Outcome State Fault Refusal :=
  serve (.openCursor p target stride segment offset generation) p
    (firstBad [(badCursor target, .target), (badStride stride, .stride), (badSegment segment, .segment),
      (badOffset offset, .offset)])
    false false (openBody (cursorOf p target) (segNo segment) offset stride generation) s

/-- CLOSE (R52): taken in every cursor state and from a quarantined port. -/
def execClose (p : Port) (target : BitVec 4) (s : State) : Host.Outcome State Fault Refusal :=
  serve (.closeCursor p target) p (firstBad [(badCursor target, .target)]) false true
    (fun s => (s.closeCursor (cursorOf p target), .plain .closed)) s

/-- SEEK taken on a cursor of segment S (R51). -/
def seekTaken (id : CursorId) (offset : Word) (stride : Option (BitVec 16)) (length : Nat) (s : State) :
    State × Response :=
  let c := s.cursor id
  let sought : Cursor := { c with state := .bound, offset := offset, stride := stride.getD c.stride }
  ((s.cancelRead id true).setCursor id sought, accessDone length sought [])

/-- SEEK past the general checks (R50). -/
def seekBody (id : CursorId) (offset : Word) (stride : Option (BitVec 16)) (s : State) : State × Response :=
  let c := s.cursor id
  let held : State × Response :=
    match c.segment with
    | some S =>
      if offset.toNat < (s.desc S).length then seekTaken id offset stride (s.desc S).length s
      else (s, .refused .outOfRange)
    | none => (s, .refused .cursorNotBound)
  match c.state with
  | .binding _ => (s, .refused .cursorBusy)
  | .crossing => (s, .refused .cursorBusy)
  | .revalidating => (s, .refused .cursorBusy)
  | .closed => (s, .refused .cursorNotBound)
  | .faulted r => (s, .refused (.cursorFaulted r))
  | .bound => held
  | .exhausted _ => held

/-- SEEK (R50, R51). -/
def execSeek (p : Port) (target : BitVec 4) (offset : Word) (stride : Option (BitVec 16)) (s : State) :
    Host.Outcome State Fault Refusal :=
  serve (.seek p target offset stride) p
    (firstBad [(badCursor target, .target), (badOffset offset, .offset), (optBad badStride stride, .stride)])
    false false (seekBody (cursorOf p target) offset stride) s

/-- The two words of a cursor report: part 0 POSITION, part 1 CONDITION (R54, section 10.3). -/
def cursorReport (s : State) (id : CursorId) (part : BitVec 8) : List Word :=
  if part = 0 then [cursorPositionWord (s.cursor id), (s.cursor id).offset]
  else [cursorConditionWord (s.cursor id) (s.slot id) (s.buffer id), (s.buffer id).baseField]

/-- QUERY_CURSOR (R54): it changes nothing. -/
def execQueryCursor (p : Port) (target : BitVec 4) (part : BitVec 8) (s : State) :
    Host.Outcome State Fault Refusal :=
  serve (.queryCursor p target part) p (firstBad [(badCursor target, .target), (badSelector part, .param)]) false true
    (fun s => (s, .done (s.cursor (cursorOf p target)).state.code false 0 (cursorReport s (cursorOf p target) part)))
    s

end Sys2Proof.Machine
end

