-- ==== Sys2Proof/Machine/MemoryPort.lean ====
section
/-! DEFINITION. Machine/MemoryPort.lean: grants, responses and timers (Chapters 5, 6 and 7). -/

namespace Sys2Proof.Machine

/-! ### Candidates -/

/-- Whether a cursor's waiting fill is eligible: no Post Queue entry overlaps its block (R105). -/
def State.fillEligible (s : State) (id : CursorId) : Bool :=
  match s.buffer id with
  | .filling b n _ .waiting => s.postQueue.all (fun e => !e.overlaps b n)
  | _ => false

/-- The candidate fill: the oldest eligible entry of the fill request list (R105). -/
def State.fillCandidate (s : State) : Option CursorId := s.fillList.find? (fun id => s.fillEligible id)

/-- The oldest QUEUED entry of a queue. -/
def oldestQueued (q : List PostEntry) : Option PostEntry := q.find? (fun e => decide (e.state = .queued))

/-- The candidate write: the oldest QUEUED entry, unless an ISSUED entry overlaps it (R126). -/
def State.writeCandidate (s : State) : Option PostEntry :=
  match oldestQueued s.postQueue with
  | none => none
  | some e =>
    if s.postQueue.any (fun x => x.state.isIssued && x.overlaps e.addr e.size.bytes) then none else some e

/-- The lowest-numbered FREE tag (R141). -/
def State.freeTag (s : State) : Option TagNo := allTags.find? (fun t => decide (s.tag t = .free))

/-! ### Grants -/

/-- The levels of the request group's lines in a transfer (R144, section 8.9); the data lines carry a write's bytes
only. -/
structure RequestLines where
  kind : BitVec 1
  tag : BitVec 3
  address : Word
  byteCount : BitVec 3
  data : Option Lines
  deriving DecidableEq, Repr

/-- The kind line: 0 for MEMORY READ, 1 for MEMORY WRITE (R144). -/
def MemKind.line : MemKind → BitVec 1
  | .read => 0
  | .write => 1

/-- The lines a request is sent on (R144). -/
def MemRequest.lines (r : MemRequest) : RequestLines where
  kind := r.kind.line
  tag := BitVec.ofNat 3 r.tag.val
  address := r.addr
  byteCount := countCode r.byteCount
  data := r.data

/-- A tag becomes BUSY, its response timer started (R143). -/
def State.startTag (s : State) (t : TagNo) (owner : TagOwner) (n : Nat) : State :=
  s.setTag t (.busy owner n (.running Config.responseTimeout))

/-- The grant of a tag to a cursor's fill (R106, R143). -/
def State.grantFill (s : State) (t : TagNo) (id : CursorId) : State :=
  match s.buffer id with
  | .filling b n _ _ =>
    ((((s.startTag t (.fill id) n).setBuffer id (.filling b n false .inFlight)).setFillList
      (s.fillList.filter (fun x => decide (x ≠ id)))).setAlternation .writeNext).setMemRequest
      (some ⟨.read, t, b, n, none⟩)
  | _ => s

/-- The oldest QUEUED entry becomes ISSUED under a tag and keeps its place (R127). -/
def issueOldest (t : TagNo) : List PostEntry → List PostEntry
  | [] => []
  | e :: rest => if e.state = .queued then { e with state := .issued t } :: rest else e :: issueOldest t rest

/-- The grant of a tag to the candidate write e (R127, R143). -/
def State.grantWrite (s : State) (t : TagNo) (e : PostEntry) : State :=
  (((s.startTag t .write e.size.bytes).setPostQueue (issueOldest t s.postQueue)).setAlternation .fillNext).setMemRequest
    (some ⟨.write, t, e.addr, e.size.bytes, some (dataLines e.data)⟩)

/-- The source that gets a free tag (R142). -/
def State.grantTo (s : State) (t : TagNo) : State :=
  match s.fillCandidate, s.writeCandidate with
  | none, none => s
  | some id, none => s.grantFill t id
  | none, some e => s.grantWrite t e
  | some id, some e =>
    match s.alternation with
    | .fillNext => s.grantFill t id
    | .writeNext => s.grantWrite t e

/-- GRANT (R141): taken only with the request channel ready, a tag FREE and a candidate. -/
def execGrant (memReady : Bool) (s : State) : Host.Outcome State Fault Refusal :=
  if memReady then
    match s.freeTag with
    | none => .next s
    | some t => .next (s.grantTo t)
  else .next s

/-! ### Deliveries -/

/-- What memory, or its silence, made of a request. -/
inductive Delivery
  | ok (beats : List Lines)
  | error
  | timeout
  deriving DecidableEq, Repr

/-- The failure a READ collects later (R108). -/
def Delivery.failure : Delivery → ReadResult
  | .timeout => .memoryTimeout
  | _ => .memoryError

/-- A WORKING slot takes its result and its discard timer starts with the port's interval (R107, R108, R111). -/
def State.fillSlot (s : State) (id : CursorId) (result : AccessSize → ReadResult) : State :=
  match s.slot id with
  | .working size => s.setSlot id (.ready size (result size) (s.port id.port).interval)
  | _ => s

/-- The bytes of the pending READ in a block: at the cursor's segment base plus offset (R107). -/
def State.pendingBytes (s : State) (id : CursorId) (base : Word) (data : List Byte) (size : AccessSize) : List Byte :=
  match (s.cursor id).segment with
  | some S => blockBytes base data (physical (s.desc S) (s.cursor id)) size.bytes
  | none => []

/-- The arrival of a void fill: its data is dropped; a WORKING slot has the block requested again (R109). -/
def State.voidArrival (s : State) (id : CursorId) (base : Word) (n : Nat) : State :=
  match s.slot id with
  | .working _ => (s.setBuffer id (.filling base n false .waiting)).setFillList (s.fillList ++ [id])
  | _ => s.setBuffer id .empty

/-- The arrival of a fill that is not void (R107, R108). -/
def State.liveArrival (s : State) (id : CursorId) (base : Word) (n : Nat) (d : Delivery) : State :=
  match d with
  | .ok beats =>
    (s.setBuffer id (.valid base n (beatBytes n beats))).fillSlot id
      (fun size => .data (s.pendingBytes id base (beatBytes n beats) size))
  | .error => (s.setBuffer id .empty).fillSlot id (fun _ => Delivery.error.failure)
  | .timeout => (s.setBuffer id .empty).fillSlot id (fun _ => Delivery.timeout.failure)

/-- The arrival of a cursor's fill (R107 to R109). -/
def State.fillArrival (s : State) (id : CursorId) (d : Delivery) : State :=
  match s.buffer id with
  | .filling base n true .inFlight => s.voidArrival id base n
  | .filling base n false .inFlight => s.liveArrival id base n d
  | _ => s

/-- The WRITE_FAILED notice of an entry (R130). -/
def State.notifyFailed (s : State) (e : PostEntry) (reason : WriteFailure) : State :=
  s.notify e.port (.writeFailed e.cursor e.segment e.offset e.size reason)

/-- The completion of the entry ISSUED under a tag: it leaves, and a failure is reported (R129, R130). -/
def State.writeCompletion (s : State) (t : TagNo) (d : Delivery) : State :=
  match s.postQueue.find? (fun e => decide (e.state = .issued t)) with
  | none => s
  | some e =>
    let left := s.setPostQueue (s.postQueue.filter (fun x => decide (x.state ≠ .issued t)))
    match d with
    | .ok _ => left
    | .error => left.notifyFailed e .memoryError
    | .timeout => left.notifyFailed e .memoryTimeout

/-- The outcome of a request goes to the owner its tag records (R146, R147). -/
def State.deliver (s : State) (t : TagNo) (owner : TagOwner) (d : Delivery) : State :=
  match owner with
  | .fill id => s.fillArrival id d
  | .write => s.writeCompletion t d

/-! ### Responses -/

/-- Beats of an OK response: one for a write or a read of up to 8 bytes, else one for each 8 bytes (R145). -/
def expectedBeats (owner : TagOwner) (n : Nat) : Nat :=
  match owner with
  | .write => 1
  | .fill _ => if n ≤ 8 then 1 else n / 8

/-- A response's outcome: ERROR also when its number of beats is not the one called for (R146). -/
def outcome (owner : TagOwner) (n : Nat) (error : Bool) (beats : List Lines) : Delivery :=
  if error = false ∧ beats.length = expectedBeats owner n then .ok beats else .error

/-- A whole response, by the state of the tag it names (R146, R148). -/
def State.takeResponse (s : State) (t : TagNo) (error : Bool) (beats : List Lines) : State :=
  match s.tag t with
  | .busy owner n _ => (s.setTag t .free).deliver t owner (outcome owner n error beats)
  | .abandoned => s.setTag t .free
  | .free => s

/-- The end of a response: one whose first beat came before keeps that beat's tag, status and data; the beats that
are being discarded end (R145, log entry 7). -/
def State.endResponse (s : State) (t : TagNo) (error : Bool) (beats : List Lines) : State :=
  match s.respChannel with
  | .idle => s.takeResponse t error beats
  | .begun t0 error0 first => (s.setRespChannel .idle).takeResponse t0 error0 (first :: beats.tail)
  | .discarding => s.setRespChannel .idle

/-- MEMORY_RESPONSE (R146). -/
def execMemoryResponse (t : TagNo) (error : Bool) (beats : List Lines) (s : State) :
    Host.Outcome State Fault Refusal :=
  .next (s.endResponse t error beats)

/-- LATE_OR_STRAY_RESPONSE (R148); naming a tag that is BUSY again it is taken as that tag's response (R151). -/
def execLateOrStray (t : TagNo) (error : Bool) (beats : List Lines) (s : State) :
    Host.Outcome State Fault Refusal :=
  .next (s.endResponse t error beats)

/-- The first beat of a response: a BUSY tag's timer stops; a response that names another tag is taken here, and its
other beats are discarded (R145, R148). -/
def State.beginResponse (s : State) (t : TagNo) (error : Bool) (data : Lines) : State :=
  match s.tag t with
  | .busy owner n _ => (s.setTag t (.busy owner n .stopped)).setRespChannel (.begun t error data)
  | .abandoned => (s.setTag t .free).setRespChannel .discarding
  | .free => s.setRespChannel .discarding

/-- RESPONSE_FIRST_BEAT (R145): a beat that comes while a response is in progress belongs to that response. -/
def execFirstBeat (t : TagNo) (error : Bool) (data : Lines) (s : State) : Host.Outcome State Fault Refusal :=
  match s.respChannel with
  | .idle => .next (s.beginResponse t error data)
  | .begun _ _ _ => .next s
  | .discarding => .next s

/-- RESPONSE_TIMER_EXPIRY (R147): only a running timer expires. -/
def execResponseTimerExpiry (t : TagNo) (s : State) : Host.Outcome State Fault Refusal :=
  match s.tag t with
  | .busy owner _ (.running _) => .next ((s.setTag t .abandoned).deliver t owner .timeout)
  | .busy _ _ .stopped => .next s
  | .free => .next s
  | .abandoned => .next s

/-! ### Discard timers -/

/-- PORT_QUARANTINED to the subject port and to each other TABLE port (R164). -/
def State.notifyQuarantine (s : State) (q : Port) : State :=
  allPorts.foldl
    (fun t p => if p = q ∨ (s.port p).authority = .table then t.notify p (.portQuarantined q) else t) s

/-- An expiry is counted, and the port's status judged (R113, R164). -/
def State.countExpiry (s : State) (q : Port) : State :=
  let r := s.port q
  let n := min (r.tally + 1) Config.maxTally
  if r.limit ≠ 0 ∧ r.status = .active ∧ r.limit ≤ n then
    (s.setPort q { r with tally := n, status := .quarantined }).notifyQuarantine q
  else s.setPort q { r with tally := n }

/-- The discard of a READY result (R112): slot, buffer, notice, tally. -/
def State.discard (s : State) (id : CursorId) : State :=
  match (s.cursor id).segment with
  | none => (s.setSlot id .empty).countExpiry id.port
  | some S =>
    ((((s.setSlot id .empty).setBuffer id ((s.buffer id).afterUse (s.desc S).keep)).notify id.port
        (.readDiscarded id.cursor S (s.cursor id).offset)).countExpiry id.port)

/-- DISCARD_TIMER_EXPIRY (R112): only a READY slot's timer runs. -/
def execDiscardTimerExpiry (p : Port) (c : CursorNo) (s : State) : Host.Outcome State Fault Refusal :=
  match s.slot ⟨p, c⟩ with
  | .ready _ _ _ => .next (s.discard ⟨p, c⟩)
  | .empty => .next s
  | .working _ => .next s

end Sys2Proof.Machine
end

