-- ==== Sys2Proof/Machine/Placement.lean ====
section
/-! DEFINITION. Machine/Placement.lean: the placement service (Chapter 3). -/

namespace Sys2Proof.Machine

/-- Whether a port is eligible for service (R63). -/
def State.eligible (s : State) (p : Port) : Bool :=
  decide ((s.port p).status = .active) && !(s.mapQueue p).isEmpty

/-- The cyclic order in which ports are examined after a last-served mark; the mark itself comes last (R64). -/
def rotation (mark : Port) : List Port := [mark + 1, mark + 2, mark + 3, mark]

/-- The first eligible port of a level, after that level's mark (R64). -/
def State.pickAt (s : State) (level : Priority) (mark : Port) : Option Port :=
  (rotation mark).find? (fun p => s.eligible p && decide ((s.port p).priority = level))

/-- The port a service is taken for, with the level it is chosen at (R64). -/
def State.pickPort (s : State) : Option (Port × Priority) :=
  match s.pickAt .high s.markHigh with
  | some p => some (p, .high)
  | none => (s.pickAt .low s.markLow).map (fun p => (p, .low))

/-- The mark of the level a port was chosen at takes that port (R62). -/
def State.setMark (s : State) (level : Priority) (p : Port) : State :=
  match level with
  | .high => { s with markHigh := p }
  | .low => { s with markLow := p }

/-- How a walk ends (R70). -/
inductive Walk
  | bound (S : Seg) (offset : Int)
  | exhausted (S : Seg) (offset : Int) (side : Side)
  | failed (S : Seg) (offset : Int) (reason : FaultReason)
  deriving DecidableEq, Repr

/-- The walk of port p from segment S in hand, with at most n hops left (R68 to R70). -/
def walk (s : State) (p : Port) : Nat → Seg → Int → Walk
  | n, S, x =>
    match (s.desc S).state with
    | .free => .failed S x .notLive
    | .retiring => .failed S x .segmentRetiring
    | .live =>
      if fget (s.desc S).rights p = .none then .failed S x .noRight
      else if x < 0 then .exhausted S x .atStart
      else if x < (s.desc S).length then .bound S x
      else
        match (s.desc S).link with
        | none => .exhausted S x .atEnd
        | some T =>
          match n with
          | 0 => .failed T (x - (s.desc S).length) .chainTooLong
          | k + 1 => walk s p k T (x - (s.desc S).length)

/-- The expected generation first, against the start segment alone, then the walk (R67). -/
def placementWalk (s : State) (p : Port) (S : Seg) (x : Int) (expected : Option (BitVec 8)) : Walk :=
  match expected with
  | none => walk s p Config.hopLimit S x
  | some g =>
    if (s.desc S).generation = g then walk s p Config.hopLimit S x else .failed S x .generationMismatch

/-- The cursor record of a successful placement (R39, R71). -/
def placedCursor (s : State) (id : CursorId) (c : Cursor) (S : Seg) (x : Int) (state : CursorState) : Cursor :=
  { c with
    state := state
    segment := some S
    generation := (s.desc S).generation
    offset := BitVec.ofInt 32 x
    writeRight := decide (fget (s.desc S).rights id.port = .readWrite) }

/-- The cursor record of a failed placement (R36). -/
def failedCursor (c : Cursor) (S : Seg) (x : Int) (reason : FaultReason) : Cursor :=
  { c with state := .faulted reason, segment := some S, offset := BitVec.ofInt 32 x, writeRight := false }

/-- What the end of a walk brings about for the served cursor (R71, R72). -/
def State.settle (s : State) (id : CursorId) (origin : Origin) (w : Walk) : State :=
  let c := s.cursor id
  match w with
  | .bound S x => (s.setCursor id (placedCursor s id c S x .bound)).claim S
  | .exhausted S x side => (s.setCursor id (placedCursor s id c S x (.exhausted side))).claim S
  | .failed S x reason =>
    (s.setCursor id (failedCursor c S x reason)).notify id.port (.placementFailed id.cursor S reason origin)

/-- Steps 3 to 5 of a service, by the mapping state served (R63, R67, R11). -/
def State.place (s : State) (id : CursorId) : State :=
  let c := s.cursor id
  match c.segment, c.state with
  | some S, .binding expected => s.settle id .opened (placementWalk s id.port S c.offset.toInt expected)
  | some S, .crossing => s.settle id .cross (placementWalk s id.port S c.offset.toInt none)
  | some S, .revalidating =>
    (s.release S).settle id .revalidate (placementWalk (s.release S) id.port S c.offset.toInt none)
  | _, _ => s

/-- The service of the head entry of port p, chosen at a level (R63). -/
def State.serveEntry (s : State) (p : Port) (level : Priority) : State :=
  match s.mapQueue p with
  | [] => s
  | c :: rest => ((s.setMapQueue p rest).setMark level p).place ⟨p, c⟩

/-- PLACEMENT_SERVICE (R63): with no port eligible no service is taken. -/
def execPlacementService (s : State) : Host.Outcome State Fault Refusal :=
  match s.pickPort with
  | none => .next s
  | some (p, level) => .next (s.serveEntry p level)

end Sys2Proof.Machine
end

