-- ==== Sys2Proof/Machine/Stack.lean ====
section
/-! DEFINITION. Machine/Stack.lean: PUSH, POP and DROP (Chapter 4). -/

namespace Sys2Proof.Machine

/-- The context a PUSH makes of cursor c on segment S (R83). -/
def contextOf (c : Cursor) (S : Seg) (side : Option Side) (mark : Mark) : Context where
  segment := S
  generation := c.generation
  offset := c.offset
  stride := c.stride
  writeRight := c.writeRight
  side := side
  mark := mark

/-- PUSH of a cursor that holds a binding on segment S: check 2 of R82, then R83. -/
def pushHeld (id : CursorId) (S : Seg) (side : Option Side) (mark : Mark) (s : State) : State × Response :=
  let st := s.stack id.port
  if Config.stackDepth ≤ st.length then (s, .refused .stackFull)
  else
    ((s.setStack id.port (contextOf (s.cursor id) S side mark :: st)).claim S,
      stackDone (s.cursor id).state.code (st.length + 1) mark)

/-- PUSH past the general checks (R82, R83). -/
def pushBody (id : CursorId) (s : State) : State × Response :=
  match (s.cursor id).segment, (s.cursor id).state with
  | some S, .bound => pushHeld id S none .valid s
  | some S, .exhausted side => pushHeld id S (some side) .valid s
  | some S, .revalidating => pushHeld id S none .stale s
  | _, _ => (s, .refused .cursorNotBound)

/-- PUSH (R82, R83). -/
def execPush (p : Port) (target : BitVec 4) (s : State) : Host.Outcome State Fault Refusal :=
  serve (.push p target) p (firstBad [(badCursor target, .target)]) false false (pushBody (cursorOf p target)) s

/-- The first step of a POP: release and cancellation (R85). -/
def State.popClear (s : State) (id : CursorId) : State := (s.releaseOf (s.cursor id)).cancelRead id false

/-- The cursor a context describes, in a given state (R86 to R88). -/
def Context.cursor (x : Context) (state : CursorState) (offset : Word) (writeRight : Bool) : Cursor where
  state := state
  segment := some x.segment
  generation := x.generation
  offset := offset
  stride := x.stride
  writeRight := writeRight

/-- The restore of a VALID context (R86). -/
def State.restoreValid (s : State) (id : CursorId) (x : Context) (k : Nat) : State :=
  let state : CursorState :=
    match x.side with
    | none => .bound
    | some side => .exhausted side
  let t := s.setCursor id (x.cursor state x.offset x.writeRight)
  if k = 0 then t else t.advance id x.segment k

/-- The restore of a STALE context (R87). -/
def State.restoreStale (s : State) (id : CursorId) (x : Context) (k : Nat) : State :=
  let off := x.offset.toInt + k * x.stride.toInt
  ((s.spendOffset off).setCursor id
    (x.cursor .revalidating (s.heldOffset (-2147483648) 2147483647 off) x.writeRight)).joinQueue id

/-- The restore of a REVOKED context (R88). -/
def State.restoreRevoked (s : State) (id : CursorId) (x : Context) : State :=
  s.setCursor id (x.cursor (.faulted .revoked) x.offset false)

/-- The second step of a POP, by the context's mark. -/
def State.restore (s : State) (id : CursorId) (x : Context) (k : Nat) : State :=
  match x.mark with
  | .valid => s.restoreValid id x k
  | .stale => s.restoreStale id x k
  | .revoked => s.restoreRevoked id x

/-- POP of a non-empty stack into a cursor in no mapping state (R84). -/
def popTaken (id : CursorId) (x : Context) (rest : List Context) (k : Nat) (s : State) : State × Response :=
  let t := ((s.popClear id).setStack id.port rest).restore id x k
  (t, stackDone (t.cursor id).state.code rest.length x.mark)

/-- POP past the general checks (R84). -/
def popBody (id : CursorId) (k : Nat) (s : State) : State × Response :=
  if (s.cursor id).state.isMapping then (s, .refused .cursorBusy)
  else
    match s.stack id.port with
    | [] => (s, .refused .stackEmpty)
    | x :: rest => popTaken id x rest k s

/-- POP (R84). -/
def execPop (p : Port) (target : BitVec 4) (k : BitVec 8) (s : State) : Host.Outcome State Fault Refusal :=
  serve (.pop p target k) p (firstBad [(badCursor target, .target), (badCount k, .param)]) false false
    (popBody (cursorOf p target) k.toNat) s

/-- The removal of a context: its binding is released if it holds one (R81, R89). -/
def State.letGo (s : State) (x : Context) : State :=
  match x.mark with
  | .valid => s.release x.segment
  | .stale => s.release x.segment
  | .revoked => s

/-- DROP past the general checks (R89). -/
def dropBody (p : Port) (s : State) : State × Response :=
  match s.stack p with
  | [] => (s, .refused .stackEmpty)
  | x :: rest => ((s.setStack p rest).letGo x, stackDone .noState rest.length x.mark)

/-- DROP (R89): taken from a quarantined port. -/
def execDrop (p : Port) (s : State) : Host.Outcome State Fault Refusal :=
  serve (.drop p) p none false true (dropBody p) s

end Sys2Proof.Machine
end

