-- ==== Sys2Proof/Machine/Table.lean ====
section
/-! DEFINITION. Machine/Table.lean: STAGE, COMMIT, RETIRE and QUERY_SEGMENT (Chapter 1), with the broadcasts of
replacement and revocation. -/

namespace Sys2Proof.Machine

/-- The new value of a field if one is given, else the old. -/
def orKeep {α : Type} : Option α → Option α → Option α
  | some x, _ => some x
  | none, old => old

/-- The staging record after a STAGE (R13). -/
def Staging.write (g : Staging) (base length : Option Word) (link : Option (BitVec 8)) (rights : Option (BitVec 8))
    (depth : Option (BitVec 7)) (keep : Option Bool) : Staging where
  base := orKeep base g.base
  length := orKeep length g.length
  link := orKeep (link.map linkOf) g.link
  rights := orKeep (rights.map rightsVec) g.rights
  depth := orKeep (depth.map (fun x => x.toNat)) g.depth
  keep := orKeep keep g.keep

/-- A port's staging record is emptied (R12). -/
def State.emptyStaging (s : State) (p : Port) : State := s.setPort p { s.port p with staging := Staging.empty }

/-- STAGE (R13). -/
def execStage (p : Port) (base length : Option Word) (link : Option (BitVec 8)) (rights : Option (BitVec 8))
    (depth : Option (BitVec 7)) (keep : Option Bool) (s : State) : Host.Outcome State Fault Refusal :=
  serve (.stage p base length link rights depth keep) p
    (firstBad [(optBad badLink link, .next), (optBad badRights rights, .rights), (optBad badDepth depth, .depth)])
    true false
    (fun s =>
      (s.setPort p { s.port p with staging := (s.port p).staging.write base length link rights depth keep },
        .plain .noState))
    s

/-! ### COMMIT -/

/-- The first field that fails validation (R15). -/
def validateRecord (base : Word) (length depth : Nat) : Option DescField :=
  if base.toNat % 64 ≠ 0 then some .base
  else if length < 64 ∨ Config.maxSegmentLength < length ∨ length % 64 ≠ 0 then some .length
  else if 4294967296 < base.toNat + length then some .length
  else if depth = 0 ∨ depth = 16 ∨ depth = 32 ∨ depth = 64 then none
  else some .depth

/-- The record an install would produce, or the first unstaged field of base, length, rights (R14, R16). -/
def installRecord (g : Staging) (d : Descriptor) : Except DescField Descriptor :=
  match g.base, g.length, g.rights with
  | none, _, _ => .error .base
  | some _, none, _ => .error .length
  | some _, some _, none => .error .rights
  | some b, some n, some r =>
    .ok { d with
      state := .live, generation := d.generation + 1, base := b, length := n.toNat, rights := r,
      link := g.link.getD none, depth := g.depth.getD 0, keep := g.keep.getD false }

/-- The record a replacement would produce: the staged fields over the current values (R15, R17). -/
def replacementRecord (g : Staging) (d : Descriptor) : Descriptor :=
  { d with
    generation := d.generation + 1
    base := g.base.getD d.base
    length := (g.length.map (fun n => n.toNat)).getD d.length
    link := g.link.getD d.link
    rights := g.rights.getD d.rights
    depth := g.depth.getD d.depth
    keep := g.keep.getD d.keep }

/-- Whether the replacement broadcast of S makes this cursor REVALIDATING (R18). -/
def Cursor.replacedBy (c : Cursor) (S : Seg) : Bool :=
  match c.state with
  | .bound => decide (c.segment = some S)
  | .exhausted _ => decide (c.segment = some S)
  | _ => false

/-- A context under the replacement broadcast of S (R19). -/
def Context.replaced (x : Context) (S : Seg) : Context :=
  if x.segment = S ∧ x.mark = .valid then { x with mark := .stale } else x

/-- The replacement broadcast of S: Cursor File and map queues (R18), Context Stacks and Read-Ahead Unit (R19). -/
def State.broadcastReplace (s : State) (S : Seg) : State :=
  let hit (id : CursorId) : Bool := (s.cursor id).replacedBy S
  { s with
    cursors := Grid.tabulate (fun id =>
      if hit id then { s.cursor id with state := .revalidating } else s.cursor id)
    mapQueues := Vector.ofFn (fun p => s.mapQueue p ++ allCursorNos.filter (fun c => hit ⟨p, c⟩))
    ctxStacks := Vector.ofFn (fun p => (s.stack p).map (fun x => x.replaced S))
    slots := Grid.tabulate (fun id => if hit id then .empty else s.slot id)
    buffers := Grid.tabulate (fun id => if hit id then (s.buffer id).cancelled false else s.buffer id)
    fillList := s.fillList.filter (fun id => !hit id) }

/-- A COMMIT that passed check 4: the record is written, the staging record emptied, the generation answered. -/
def commitDone (p : Port) (S : Seg) (d : Descriptor) (s : State) : State × Response :=
  ((s.setDesc S d).emptyStaging p, .done .noState false 0 [generationWord d.generation])

/-- COMMIT past the general checks (R14 to R17). -/
def commitBody (p : Port) (S : Seg) (s : State) : State × Response :=
  let g := (s.port p).staging
  let d := s.desc S
  if g = Staging.empty then (s, .refused .nothingStaged)
  else
    match d.state with
    | .retiring => (s, .refused .segmentRetiring)
    | .free =>
      match installRecord g d with
      | .error f => (s, .refused (.badDescriptor f))
      | .ok r =>
        match validateRecord r.base r.length r.depth with
        | some f => (s, .refused (.badDescriptor f))
        | none => commitDone p S r s
    | .live =>
      let r := replacementRecord g d
      match validateRecord r.base r.length r.depth with
      | some f => (s, .refused (.badDescriptor f))
      | none => ((commitDone p S r s).1.broadcastReplace S, (commitDone p S r s).2)

/-- COMMIT (R14). -/
def execCommit (p : Port) (segment : BitVec 8) (s : State) : Host.Outcome State Fault Refusal :=
  serve (.commit p segment) p (firstBad [(badSegment segment, .segment)]) true false (commitBody p (segNo segment)) s

/-! ### RETIRE -/

/-- A cursor under the revocation of S (R25, R36). -/
def Cursor.revoked (c : Cursor) (S : Seg) : Cursor :=
  if c.holds S then { c with state := .faulted .revoked, writeRight := false } else c

/-- A context under the revocation of S (R25). -/
def Context.revoked (x : Context) (S : Seg) : Context := if x.holds S then { x with mark := .revoked } else x

/-- How many of port p's cursors hold a binding on S (R26). -/
def State.heldCursors (s : State) (p : Port) (S : Seg) : Nat := allCursorNos.countP (fun c => (s.cursor ⟨p, c⟩).holds S)

/-- How many of port p's contexts hold a binding on S (R26). -/
def State.heldContexts (s : State) (p : Port) (S : Seg) : Nat := (s.stack p).countP (fun x => x.holds S)

/-- The revocation broadcast of S (R25). -/
def State.broadcastRevoke (s : State) (S : Seg) : State :=
  let hit (id : CursorId) : Bool := (s.cursor id).holds S
  { s with
    cursors := Grid.tabulate (fun id => (s.cursor id).revoked S)
    mapQueues := Vector.ofFn (fun p => (s.mapQueue p).filter (fun c => !hit ⟨p, c⟩))
    ctxStacks := Vector.ofFn (fun p => (s.stack p).map (fun x => x.revoked S))
    slots := Grid.tabulate (fun id => if hit id then .empty else s.slot id)
    buffers := Grid.tabulate (fun id => if hit id then (s.buffer id).cancelled false else s.buffer id)
    fillList := s.fillList.filter (fun id => !hit id) }

/-- The REVOKED notice of port p, if it had a cursor or a context revoked (R26). -/
def State.notifyRevoked (s : State) (S : Seg) (cursors contexts : Nat) (p : Port) : State :=
  if cursors = 0 ∧ contexts = 0 then s else s.notify p (.revoked S cursors contexts)

/-- The REVOKED notices of a revocation, counted before it (R26). -/
def State.notifyAllRevoked (s before : State) (S : Seg) : State :=
  allPorts.foldl (fun t p => t.notifyRevoked S (before.heldCursors p S) (before.heldContexts p S) p) s

/-- RETIRE_COMPLETE(FORCED) to the recorded retiring port, if S was RETIRING (R26). -/
def State.notifyForced (s : State) (S : Seg) (d : Descriptor) : State :=
  match d.state, d.retiringPort with
  | .retiring, some q => s.notify q (.retireComplete S .forced)
  | _, _ => s

/-- A forced retirement of a segment with holders, or RETIRING (R24). -/
def State.forceRetire (s : State) (S : Seg) : State :=
  ((((s.broadcastRevoke S).notifyAllRevoked s S).notifyForced S (s.desc S)).setDesc S (s.desc S).freed)

/-- The DONE of a RETIRE: completion and the segment's generation after the request (R20). -/
def retireDone (code : StateCode) (generation : BitVec 8) : Response :=
  .done code false 0 [generationWord generation]

/-- RETIRE past the general checks: the table of R20. -/
def retireBody (p : Port) (forced : Bool) (S : Seg) (s : State) : State × Response :=
  let d := s.desc S
  match d.state with
  | .free => (s, .refused .notLive)
  | .live =>
    if d.bindCount = 0 then (s.setDesc S d.freed, retireDone .retireComplete d.freed.generation)
    else if forced then (s.forceRetire S, retireDone .retireComplete d.freed.generation)
    else
      (s.setDesc S { d with state := .retiring, retiringPort := some p }, retireDone .retirePending d.generation)
  | .retiring =>
    if forced then (s.forceRetire S, retireDone .retireComplete d.freed.generation)
    else (s, .refused .segmentRetiring)

/-- RETIRE (R20); PARAM 0 is GRACEFUL, 1 FORCED. -/
def execRetire (p : Port) (mode : BitVec 8) (segment : BitVec 8) (s : State) : Host.Outcome State Fault Refusal :=
  serve (.retire p mode segment) p (firstBad [(badSelector mode, .param), (badSegment segment, .segment)]) true false
    (retireBody p (decide (mode = 1)) (segNo segment)) s

/-! ### QUERY_SEGMENT -/

/-- The two words of a segment record: part 0 STATUS, part 1 PLACE (R29, section 10.3). -/
def segmentRecord (d : Descriptor) (part : BitVec 8) : List Word :=
  if part = 0 then [segmentStatusWord d, segmentAttributesWord d] else [d.base, segmentLengthWord d]

/-- QUERY_SEGMENT (R29): it changes nothing. -/
def execQuerySegment (p : Port) (part : BitVec 8) (segment : BitVec 8) (s : State) :
    Host.Outcome State Fault Refusal :=
  serve (.querySegment p part segment) p (firstBad [(badSelector part, .param), (badSegment segment, .segment)]) false true
    (fun s => (s, .done .noState false 0 (segmentRecord (s.desc (segNo segment)) part))) s

end Sys2Proof.Machine
end

