-- ==== Sys2Proof/Machine/Ports.lean ====
section
/-! DEFINITION. Machine/Ports.lean: FETCH_NOTICE (Chapter 9), SET_PORT, RELEASE_PORT, RESET_PORT, BAD_REQUEST, the
link, and DEVICE_RESET (Chapter 8). -/

namespace Sys2Proof.Machine

/-- FETCH_NOTICE past the general checks (R179). -/
def fetchBody (p : Port) (s : State) : State × Response :=
  let q := s.noticeQueue p
  match q.items with
  | [] => (s.setNotices p ⟨[], false⟩, .done (.notice .none) false (auxField 0 0 q.overrun) [])
  | n :: rest =>
    (s.setNotices p ⟨rest, false⟩,
      .done (.notice n.kind) false (auxField rest.length 0 q.overrun) n.words)

/-- FETCH_NOTICE (R179): any authority, any status. -/
def execFetchNotice (p : Port) (s : State) : Host.Outcome State Fault Refusal :=
  serve (.fetchNotice p) p none false true (fetchBody p) s

/-- Whether a port other than q has TABLE authority, whatever its status (R160, R159; log entry 17). -/
def State.otherTable (s : State) (q : Port) : Bool :=
  allPorts.any (fun p => decide (p ≠ q) && decide ((s.port p).authority = .table))

/-- A port record after a SET_PORT: each setting given, and no staging left when TABLE is lost (R160, R161). -/
def PortRec.set (r : PortRec) (authority : Option Authority) (priority : Option Priority) (limit : Option Nat)
    (interval : Option Interval) : PortRec :=
  { r with
    authority := authority.getD r.authority
    priority := priority.getD r.priority
    limit := limit.getD r.limit
    interval := interval.getD r.interval
    staging := if r.authority = .table ∧ authority = some .ordinary then Staging.empty else r.staging }

/-- SET_PORT past the general checks (R160). LAST_AUTHORITY is judged by R160 and R159: a QUARANTINED port of TABLE
authority counts as another TABLE port, where the first bullet of R166 reads the other way (the model's choice, log
entry 17). -/
def setPortBody (q : Port) (authority : Option Authority) (priority : Option Priority) (limit : Option Nat)
    (interval : Option Interval) (s : State) : State × Response :=
  let r := s.port q
  if authority = some .ordinary ∧ r.authority = .table ∧ s.otherTable q = false then (s, .refused .lastAuthority)
  else
    let r' := r.set authority priority limit interval
    (s.setPort q r', .done r'.status.code false 0 [portReportWord r'])

/-- SET_PORT (R160). -/
def execSetPort (p : Port) (target : BitVec 4) (authority priority : Option (BitVec 2)) (limit : Option (BitVec 5))
    (interval : Option (BitVec 2)) (s : State) : Host.Outcome State Fault Refusal :=
  serve (.setPort p target authority priority limit interval) p
    (firstBad [(badPort target, .target), (optBad badBinary authority, .authority),
      (optBad badBinary priority, .priority), (optBad badLimit limit, .discardLimit),
      (optBad badInterval interval, .discardInterval)])
    true false
    (setPortBody (portNo target) (authority.map authorityOf) (priority.map priorityOf)
      (limit.map (fun x => x.toNat)) (interval.map intervalOf))
    s

/-- RELEASE_PORT past the general checks: the DONE reports the status before the request (R167). -/
def releasePortBody (q : Port) (s : State) : State × Response :=
  match (s.port q).status with
  | .active => (s, .plain .active)
  | .quarantined =>
    ((s.setPort q { s.port q with status := .active, tally := 0 }).notify q .portReleased, .plain .quarantined)

/-- RELEASE_PORT (R167). -/
def execReleasePort (p : Port) (target : BitVec 4) (s : State) : Host.Outcome State Fault Refusal :=
  serve (.releasePort p target) p (firstBad [(badPort target, .target)]) true false (releasePortBody (portNo target)) s

/-- Step 2 of a port reset: cursors 0 to 7 are closed in increasing number (R57). -/
def State.resetCursors (s : State) (q : Port) : State := allCursorNos.foldl (fun t c => t.closeCursor ⟨q, c⟩) s

/-- Step 3 of a port reset: the stack is emptied from the top down (R81). -/
def State.resetStack (s : State) (q : Port) : State :=
  (s.stack q).foldl (fun t x => t.letGo x) (s.setStack q [])

/-- Step 4 of a port reset (R170). -/
def State.resetRecord (s : State) (q : Port) : State :=
  s.setPort q { s.port q with tally := 0, status := .active, staging := Staging.empty }

/-- A port reset: its four steps in order (R170). -/
def State.resetPort (s : State) (q : Port) : State :=
  (((s.setNotices q ⟨[], false⟩).resetCursors q).resetStack q).resetRecord q

/-- RESET_PORT (R169): of the issuing port from any port, of another port from an ACTIVE TABLE port. -/
def execResetPort (p : Port) (target : BitVec 4) (s : State) : Host.Outcome State Fault Refusal :=
  serve (.resetPort p target) p (firstBad [(badPort target, .target)]) (decide (portNo target ≠ p))
    (decide (portNo target = p)) (fun s => (s.resetPort (portNo target), .plain .active)) s

/-- BAD_REQUEST (R154): refused at check 1, whatever the frame's words. -/
def execBadRequest (p : Port) (frame : List Word) (s : State) : Host.Outcome State Fault Refusal :=
  refuseForm (.badRequest p frame) p s

/-- A port's link with nothing owed and nothing waiting, and the requests that waited on it at the front of the queue,
so that the first of them is taken next (R153, log entry 4). -/
def State.reoffer (s : State) (p : Port) : State :=
  (s.setLink p { s.link p with owed := none, waiting := [] }).setPending ((s.link p).waiting ++ s.pending)

/-- RESPONSE_LAST_WORD_PASSED (R153): no response is owed any more, and the requests that waited are offered again. -/
def execLastWordPassed (p : Port) (s : State) : Host.Outcome State Fault Refusal := .next (s.reoffer p)

/-- The authority of a port when a reset ends (R159). -/
def strapAuthority (straps : BitVec 4) (p : Port) : Authority :=
  if straps.getLsbD p.val || (decide (straps = 0) && decide (p = 0)) then .table else .ordinary

/-- DEVICE_RESET (R173, R174): every reset value, and the authorities the straps give. The queue of commands and
the counter of free values are the model's own and stay; the requests that waited on the links, which no channel took,
are offered again in front, RP0's first (log entry 4). -/
def execDeviceReset (straps : BitVec 4) (s : State) : Host.Outcome State Fault Refusal :=
  .next
    { State.reset with
      ports := Vector.ofFn (fun p => PortRec.reset (strapAuthority straps p))
      freeCount := s.freeCount
      pending := allPorts.flatMap (fun p => (s.link p).waiting) ++ s.pending }

end Sys2Proof.Machine
end

