-- ==== Sys2Proof/Machine/Dispatch.lean ====
section
/-! DEFINITION. Machine/Dispatch.lean: one arm for each command. -/

namespace Sys2Proof.Machine

def exec (i : Instr) (s : State) : Host.Outcome State Fault Refusal :=
  match i with
  | .openCursor p target stride segment offset generation => Sys2Proof.Machine.execOpen p target stride segment offset generation s
  | .closeCursor p target => Sys2Proof.Machine.execClose p target s
  | .seek p target offset stride => Sys2Proof.Machine.execSeek p target offset stride s
  | .read p target size => Sys2Proof.Machine.execRead p target size s
  | .write p target size data => Sys2Proof.Machine.execWrite p target size data s
  | .queryCursor p target part => Sys2Proof.Machine.execQueryCursor p target part s
  | .push p target => Sys2Proof.Machine.execPush p target s
  | .pop p target k => Sys2Proof.Machine.execPop p target k s
  | .drop p => Sys2Proof.Machine.execDrop p s
  | .stage p base length link rights depth keep => Sys2Proof.Machine.execStage p base length link rights depth keep s
  | .commit p segment => Sys2Proof.Machine.execCommit p segment s
  | .retire p mode segment => Sys2Proof.Machine.execRetire p mode segment s
  | .querySegment p part segment => Sys2Proof.Machine.execQuerySegment p part segment s
  | .fetchNotice p => Sys2Proof.Machine.execFetchNotice p s
  | .setPort p target authority priority limit interval => Sys2Proof.Machine.execSetPort p target authority priority limit interval s
  | .releasePort p target => Sys2Proof.Machine.execReleasePort p target s
  | .resetPort p target => Sys2Proof.Machine.execResetPort p target s
  | .badRequest p frame => Sys2Proof.Machine.execBadRequest p frame s
  | .placementService => Sys2Proof.Machine.execPlacementService s
  | .grant memReady => Sys2Proof.Machine.execGrant memReady s
  | .responseFirstBeat tag error data => Sys2Proof.Machine.execFirstBeat tag error data s
  | .memoryResponse tag error beats => Sys2Proof.Machine.execMemoryResponse tag error beats s
  | .lateOrStrayResponse tag error beats => Sys2Proof.Machine.execLateOrStray tag error beats s
  | .responseTimerExpiry tag => Sys2Proof.Machine.execResponseTimerExpiry tag s
  | .discardTimerExpiry p c => Sys2Proof.Machine.execDiscardTimerExpiry p c s
  | .deviceReset straps => Sys2Proof.Machine.execDeviceReset straps s
  | .responseLastWordPassed p => Sys2Proof.Machine.execLastWordPassed p s

end Sys2Proof.Machine
end

