-- ==== Sys2Proof/Machine/Step.lean ====
section
/-! DEFINITION. Machine/Step.lean: one step takes the command at the front of the queue. -/

namespace Sys2Proof.Machine

/-- The command at the front of the queue, taken whole (R7); an empty queue idles (log entry 16). -/
def step (s : State) : Host.Outcome State Fault Refusal :=
  match s.pending with
  | [] => .next s
  | c :: rest => exec c { s with pending := rest }

/-- s with the command a table word spells at the front of its queue; unchanged where the word spells none. -/
def State.withFetchWord (s : State) (nbits w : Nat) : State :=
  match decodeTableWord nbits w with
  | some c => { s with pending := c :: s.pending }
  | none => s

/-- s with a request frame offered on port p: the command it is stands last in the queue (R154). -/
def State.receiveFrame (s : State) (p : Port) (frame : List Word) : State :=
  { s with pending := s.pending ++ [parseFrame p frame] }

end Sys2Proof.Machine
end

