-- ==== Sys2Proof/WellFormed.lean ====
section
/-! DEFINITION. WellFormed.lean: which commands can occur on the part's links and memory port. A field out of its
range is well formed: the part answers it BAD_ARGUMENT (R156). -/

namespace Sys2Proof

/-- The form of a command: a WRITE carries the data words its SIZE code calls for (R184); a BAD_REQUEST carries a
frame that has a header and is indeed of an unknown code or a wrong length (R154); a response has a first beat
(R145). -/
def Instr.wf (i : Instr) : Bool :=
  match i with
  | .write _ _ size data => Frame.writeLengthOk size data
  | .badRequest p frame => !frame.isEmpty && decide (parseFrame p frame = .badRequest p frame)
  | .memoryResponse _ _ beats => !beats.isEmpty
  | .lateOrStrayResponse _ _ beats => !beats.isEmpty
  | .openCursor _ _ _ _ _ _ => true
  | .closeCursor _ _ => true
  | .seek _ _ _ _ => true
  | .read _ _ _ => true
  | .queryCursor _ _ _ => true
  | .push _ _ => true
  | .pop _ _ _ => true
  | .drop _ => true
  | .stage _ _ _ _ _ _ _ => true
  | .commit _ _ => true
  | .retire _ _ _ => true
  | .querySegment _ _ _ => true
  | .fetchNotice _ => true
  | .setPort _ _ _ _ _ _ => true
  | .releasePort _ _ => true
  | .resetPort _ _ => true
  | .placementService => true
  | .grant _ => true
  | .responseFirstBeat _ _ _ => true
  | .responseTimerExpiry _ => true
  | .discardTimerExpiry _ _ => true
  | .deviceReset _ => true
  | .responseLastWordPassed _ => true

/-- The port a request arrives on; none for an event of the part. -/
def Instr.requestPort (i : Instr) : Option Port :=
  match i with
  | .openCursor p _ _ _ _ _ => some p
  | .closeCursor p _ => some p
  | .seek p _ _ _ => some p
  | .read p _ _ => some p
  | .write p _ _ _ => some p
  | .queryCursor p _ _ => some p
  | .push p _ => some p
  | .pop p _ _ => some p
  | .drop p => some p
  | .stage p _ _ _ _ _ _ => some p
  | .commit p _ => some p
  | .retire p _ _ => some p
  | .querySegment p _ _ => some p
  | .fetchNotice p => some p
  | .setPort p _ _ _ _ _ => some p
  | .releasePort p _ => some p
  | .resetPort p _ => some p
  | .badRequest p _ => some p
  | .placementService => none
  | .grant _ => none
  | .responseFirstBeat _ _ _ => none
  | .memoryResponse _ _ _ => none
  | .lateOrStrayResponse _ _ _ => none
  | .responseTimerExpiry _ => none
  | .discardTimerExpiry _ _ => none
  | .deviceReset _ => none
  | .responseLastWordPassed _ => none

end Sys2Proof
end

