-- ==== Sys2Proof/Safety.lean ====
section
/-! DEFINITION. Safety.lean: what the claims speak of: the parts of the state a command may change, the conditions a
request is taken under, and the invariants of the part. -/

namespace Sys2Proof

/-! ### What requests the general checks take -/

/-- A stride in range (R156). -/
def StrideOk (x : BitVec 16) : Prop := -128 ≤ x.toInt ∧ x.toInt ≤ 128

/-- Every field the request reads is in its range (the table of R156). -/
def Instr.FieldsInRange : Instr → Prop
  | .openCursor _ t stride segment offset _ =>
    t.toNat < 8 ∧ StrideOk stride ∧ segment.toNat < 128 ∧ offset.toNat ≤ 16777215
  | .closeCursor _ t => t.toNat < 8
  | .seek _ t offset stride => t.toNat < 8 ∧ offset.toNat ≤ 16777215 ∧ ∀ x, stride = some x → StrideOk x
  | .read _ t size => t.toNat < 8 ∧ size.toNat < 4
  | .write _ t size _ => t.toNat < 8 ∧ size.toNat < 4
  | .queryCursor _ t part => t.toNat < 8 ∧ part.toNat < 2
  | .push _ t => t.toNat < 8
  | .pop _ t k => t.toNat < 8 ∧ k.toNat < 16
  | .stage _ _ _ link rights depth _ =>
    (∀ x, link = some x → x.toNat < 128 ∨ x.toNat = 255) ∧
      (∀ x, rights = some x → ∀ q : Port, (x.extractLsb' (2 * q.val) 2).toNat < 3) ∧
      (∀ x, depth = some x → x.toNat ≤ 64)
  | .commit _ segment => segment.toNat < 128
  | .retire _ mode segment => mode.toNat < 2 ∧ segment.toNat < 128
  | .querySegment _ part segment => part.toNat < 2 ∧ segment.toNat < 128
  | .setPort _ t authority priority limit interval =>
    t.toNat < 4 ∧ (∀ x, authority = some x → x.toNat < 2) ∧ (∀ x, priority = some x → x.toNat < 2) ∧
      (∀ x, limit = some x → x.toNat ≤ 15) ∧ (∀ x, interval = some x → x.toNat < 3)
  | .releasePort _ t => t.toNat < 4
  | .resetPort _ t => t.toNat < 4
  | _ => True

/-- A stride out of range (R156). -/
def strideOut (x : BitVec 16) : Bool := decide (x.toInt < -128) || decide (128 < x.toInt)

/-- The first field of a request that is out of its range: TARGET, SIZE and PARAM, then the argument words in frame
order, each from its lowest bits (the table and the order of R185). -/
def Instr.firstOutOfRange : Instr → Option Machine.ArgField
  | .openCursor _ t stride segment offset _ =>
    if 8 ≤ t.toNat then some .target
    else if strideOut stride then some .stride
    else if 128 ≤ segment.toNat then some .segment
    else if 16777216 ≤ offset.toNat then some .offset
    else none
  | .closeCursor _ t => if 8 ≤ t.toNat then some .target else none
  | .seek _ t offset stride =>
    if 8 ≤ t.toNat then some .target
    else if 16777216 ≤ offset.toNat then some .offset
    else if stride.any strideOut then some .stride
    else none
  | .read _ t size => if 8 ≤ t.toNat then some .target else if 4 ≤ size.toNat then some .size else none
  | .write _ t size _ => if 8 ≤ t.toNat then some .target else if 4 ≤ size.toNat then some .size else none
  | .queryCursor _ t part => if 8 ≤ t.toNat then some .target else if 2 ≤ part.toNat then some .param else none
  | .push _ t => if 8 ≤ t.toNat then some .target else none
  | .pop _ t k => if 8 ≤ t.toNat then some .target else if 16 ≤ k.toNat then some .param else none
  | .stage _ _ _ link rights depth _ =>
    if link.any (fun x => decide (128 ≤ x.toNat ∧ x.toNat ≤ 254)) then some .next
    else if rights.any (fun x => decide (∃ q : Port, x.extractLsb' (2 * q.val) 2 = 3)) then some .rights
    else if depth.any (fun x => decide (65 ≤ x.toNat)) then some .depth
    else none
  | .commit _ segment => if 128 ≤ segment.toNat then some .segment else none
  | .retire _ mode segment =>
    if 2 ≤ mode.toNat then some .param else if 128 ≤ segment.toNat then some .segment else none
  | .querySegment _ part segment =>
    if 2 ≤ part.toNat then some .param else if 128 ≤ segment.toNat then some .segment else none
  | .setPort _ t authority priority limit interval =>
    if 4 ≤ t.toNat then some .target
    else if authority.any (fun x => decide (2 ≤ x.toNat)) then some .authority
    else if priority.any (fun x => decide (2 ≤ x.toNat)) then some .priority
    else if limit.any (fun x => decide (16 ≤ x.toNat)) then some .discardLimit
    else if interval.any (fun x => decide (x.toNat = 3)) then some .discardInterval
    else none
  | .releasePort _ t => if 4 ≤ t.toNat then some .target else none
  | .resetPort _ t => if 4 ≤ t.toNat then some .target else none
  | _ => none

/-- The requests that require TABLE authority (R157). -/
def Instr.NeedsTable : Instr → Prop
  | .stage _ _ _ _ _ _ _ => True
  | .commit _ _ => True
  | .retire _ _ _ => True
  | .setPort _ _ _ _ _ _ => True
  | .releasePort _ _ => True
  | .resetPort p t => t.toNat ≠ p.val
  | _ => False

/-- The requests a QUARANTINED port may not issue (R165). -/
def Instr.BarredInQuarantine : Instr → Prop
  | .openCursor _ _ _ _ _ _ => True
  | .seek _ _ _ _ => True
  | .read _ _ _ => True
  | .write _ _ _ _ => True
  | .push _ _ => True
  | .pop _ _ _ => True
  | .stage _ _ _ _ _ _ _ => True
  | .commit _ _ => True
  | .retire _ _ _ => True
  | .setPort _ _ _ _ _ _ => True
  | .releasePort _ _ => True
  | .resetPort p t => t.toNat ≠ p.val
  | _ => False

/-- Whether a request frame with this header may have n argument words (R154, R184). -/
def Frame.callsFor (h : Word) (n : Nat) : Prop :=
  let flag (k : Nat) : Nat := if h.getLsbD k then 1 else 0
  match (Frame.code h).toNat with
  | 0x01 => n = 2 + flag 16
  | 0x03 => n = 1 + flag 16
  | 0x05 => if (Frame.size h).toNat ≤ 2 then n = 1 else if (Frame.size h).toNat = 3 then n = 2 else n ≤ 3
  | 0x20 => n = flag 16 + flag 17 + max (max (flag 18) (flag 19)) (max (flag 20) (flag 21))
  | 0x40 => n = max (max (flag 16) (flag 17)) (max (flag 18) (flag 19))
  | 0x21 | 0x22 | 0x23 => n = 1
  | 0x02 | 0x04 | 0x06 | 0x10 | 0x11 | 0x12 | 0x30 | 0x41 | 0x42 => n = 0
  | _ => False

/-- The header bits the part reads for a request code (R183): CODE, and the fields the table of section 10.1 uses. -/
def Frame.readBits (code : Nat) : Word :=
  match code with
  | 0x01 | 0x03 => 0x00010FFF
  | 0x02 | 0x10 | 0x41 | 0x42 => 0x00000FFF
  | 0x04 | 0x05 => 0x00007FFF
  | 0x06 | 0x11 => 0xFF000FFF
  | 0x20 => 0x003F00FF
  | 0x22 | 0x23 => 0xFF0000FF
  | 0x40 => 0x000F0FFF
  | _ => 0x000000FF

/-- The bits the part reads in the argument words of a frame with this header (R183): the fields of section 10.1, and
of an attributes or settings word those whose flag is set. -/
def Frame.argBits (h : Word) : List Word :=
  let all : Word := 0xFFFFFFFF
  let flagged (k : Nat) (bits : Word) : Word := if h.getLsbD k then bits else 0
  match (Frame.code h).toNat with
  | 0x01 => [0x00FFFFFF, all, 0x000000FF]
  | 0x03 => [all, 0x0000FFFF]
  | 0x05 => [all, all, all]
  | 0x20 =>
    (if h.getLsbD 16 then [all] else []) ++ (if h.getLsbD 17 then [all] else []) ++
      [flagged 18 0x000000FF ||| flagged 19 0x0000FF00 ||| flagged 20 0x007F0000 ||| flagged 21 0x01000000]
  | 0x21 | 0x22 | 0x23 => [0x000000FF]
  | 0x40 => [flagged 16 0x00000003 ||| flagged 17 0x0000000C ||| flagged 18 0x00001F00 ||| flagged 19 0x00030000]
  | _ => []

end Sys2Proof

namespace Sys2Proof.Machine

/-! ### Frames -/

/-- The fields of State, as names a frame can list. -/
inductive Part
  | dt | cursors | mapQueues | markHigh | markLow | ctxStacks | buffers | slots | fillList | postQueue | tags
  | alternation | memRequest | respChannel | ports | notices | links | freeCount | pending
  deriving DecidableEq, Repr

/-- Two states agree in one part. -/
def State.agree (s t : State) : Part → Prop
  | .dt => t.dt = s.dt
  | .cursors => t.cursors = s.cursors
  | .mapQueues => t.mapQueues = s.mapQueues
  | .markHigh => t.markHigh = s.markHigh
  | .markLow => t.markLow = s.markLow
  | .ctxStacks => t.ctxStacks = s.ctxStacks
  | .buffers => t.buffers = s.buffers
  | .slots => t.slots = s.slots
  | .fillList => t.fillList = s.fillList
  | .postQueue => t.postQueue = s.postQueue
  | .tags => t.tags = s.tags
  | .alternation => t.alternation = s.alternation
  | .memRequest => t.memRequest = s.memRequest
  | .respChannel => t.respChannel = s.respChannel
  | .ports => t.ports = s.ports
  | .notices => t.notices = s.notices
  | .links => t.links = s.links
  | .freeCount => t.freeCount = s.freeCount
  | .pending => t.pending = s.pending

/-- From s to t nothing changes but the parts listed. -/
def State.OnlyChanges (s t : State) (parts : List Part) : Prop := ∀ q, q ∉ parts → s.agree t q

def State.SameDescsBut (s t : State) (S : Seg) : Prop := ∀ T, T ≠ S → t.desc T = s.desc T
def State.SameCursorsBut (s t : State) (id : CursorId) : Prop := ∀ x, x ≠ id → t.cursor x = s.cursor x
def State.SameBuffersBut (s t : State) (id : CursorId) : Prop := ∀ x, x ≠ id → t.buffer x = s.buffer x
def State.SameSlotsBut (s t : State) (id : CursorId) : Prop := ∀ x, x ≠ id → t.slot x = s.slot x
def State.SameMapQueuesBut (s t : State) (p : Port) : Prop := ∀ q, q ≠ p → t.mapQueue q = s.mapQueue q
def State.SameStacksBut (s t : State) (p : Port) : Prop := ∀ q, q ≠ p → t.stack q = s.stack q
def State.SamePortsBut (s t : State) (p : Port) : Prop := ∀ q, q ≠ p → t.port q = s.port q
def State.SameNoticesBut (s t : State) (p : Port) : Prop := ∀ q, q ≠ p → t.noticeQueue q = s.noticeQueue q
def State.SameLinksBut (s t : State) (p : Port) : Prop := ∀ q, q ≠ p → t.link q = s.link q
def State.SameTagsBut (s t : State) (n : TagNo) : Prop := ∀ m, m ≠ n → t.tag m = s.tag m

/-- The link side of a request of port p that is taken: the response r is owed on p, what waits there waits on, and
the other links are as before (R153, R155). -/
def State.Answers (s t : State) (p : Port) (r : Response) : Prop :=
  t.link p = ⟨some r, [], (s.link p).waiting⟩ ∧ s.SameLinksBut t p

/-! ### When a request is taken and passes the general checks -/

/-- The request channel is ready, and the port's authority and status pass checks 3 and 4 (R153, R156). -/
def State.Admits (s : State) (p : Port) (needsTable quarantineTakes : Bool) : Prop :=
  s.requestReady p = true ∧ (needsTable = true → (s.port p).authority = .table) ∧
    (quarantineTakes = false → (s.port p).status = .active)

/-- A request of port p is taken from s to t: the response r is owed, and nothing else changes but the parts
listed. -/
def State.Took (s t : State) (p : Port) (r : Response) (parts : List Part) : Prop :=
  s.Answers t p r ∧ s.OnlyChanges t (.links :: parts)

/-- The access of a BOUND cursor on segment S passes checks 1 and 2 of R41. -/
def State.AccessPasses (s : State) (id : CursorId) (S : Seg) (size : AccessSize) : Prop :=
  (s.cursor id).state = .bound ∧ (s.cursor id).segment = some S ∧
    (s.cursor id).offset.toInt + size.bytes ≤ (s.desc S).length ∧ (s.cursor id).offset.toNat % size.bytes = 0

/-! ### Effects that several commands share -/

/-- From s to t one binding on S is released (R10): the count falls by one, or, the last binding on a RETIRING
descriptor gone, the descriptor is freed and the recorded port told (R21, R23). -/
def State.Released (s t : State) (S : Seg) : Prop :=
  s.SameDescsBut t S ∧
  ((s.desc S).state = .live ∨ (s.desc S).state = .retiring ∧ (s.desc S).bindCount ≠ 1 →
    t.desc S = { s.desc S with bindCount := (s.desc S).bindCount - 1 } ∧ t.notices = s.notices) ∧
  ((s.desc S).state = .retiring → (s.desc S).bindCount = 1 →
    t.desc S = { Descriptor.reset with generation := (s.desc S).generation + 1 } ∧
    ∀ q, t.noticeQueue q =
      if (s.desc S).retiringPort = some q then (s.noticeQueue q).push (.retireComplete S .graceful)
      else s.noticeQueue q)

/-- From s to t one binding on each of these segments is released, one after the other (R10). -/
def State.ReleasedAll (s t : State) : List Seg → Prop
  | [] => t.dt = s.dt ∧ t.notices = s.notices
  | S :: rest => ∃ u, s.Released u S ∧ u.ReleasedAll t rest

/-- The segments port q holds bindings on, in the order a port reset releases them: cursors 0 to 7, then the stack from
the top down (R170, R57, R81). -/
def State.portBindings (s : State) (q : Port) : List Seg :=
  allCursorNos.filterMap
      (fun c => if (s.cursor ⟨q, c⟩).state.holdsBinding then (s.cursor ⟨q, c⟩).segment else none) ++
    (s.stack q).filterMap (fun x => if x.mark.holdsBinding then some x.segment else none)

/-- From s to t the cursor becomes EXHAUSTED at this side with exact offset x, and nothing is released (R47). The
offset is stated where it fits (log entry 1). -/
def State.Exhausts (s t : State) (id : CursorId) (side : Side) (x : Int) : Prop :=
  (∃ o, t.cursor id = { s.cursor id with state := .exhausted side, offset := o } ∧
    (-2147483648 ≤ x → x ≤ 2147483647 → o = BitVec.ofInt 32 x)) ∧
  t.dt = s.dt ∧ t.notices = s.notices ∧ t.mapQueues = s.mapQueues

/-- From s to t the cursor, on segment S, advances by m strides: the table of R45, with R46 and R47. -/
def State.Advanced (s t : State) (id : CursorId) (S : Seg) (m : Nat) : Prop :=
  let c := s.cursor id
  let d := s.desc S
  let x : Int := c.offset.toInt + m * c.stride.toInt
  s.SameCursorsBut t id ∧
  (0 ≤ x → x < d.length →
    t.cursor id = { c with state := .bound, offset := BitVec.ofInt 32 x } ∧ t.dt = s.dt ∧ t.notices = s.notices ∧
      t.mapQueues = s.mapQueues) ∧
  (∀ T, d.length ≤ x → 0 < c.stride.toInt → d.link = some T →
    (∃ o, t.cursor id = { c with state := .crossing, segment := some T, offset := o } ∧
      (x - d.length ≤ 2147483647 → o = BitVec.ofInt 32 (x - d.length))) ∧
    s.Released t S ∧ t.mapQueue id.port = s.mapQueue id.port ++ [id.cursor] ∧ s.SameMapQueuesBut t id.port) ∧
  (d.length ≤ x → c.stride.toInt ≤ 0 ∨ d.link = none → s.Exhausts t id .atEnd x) ∧
  (x < 0 → s.Exhausts t id .atStart x)

/-- From s to t the read activity of one cursor is cancelled (R116, R117); keepValid for SEEK. -/
def State.Cancelled (s t : State) (id : CursorId) (keepValid : Bool) : Prop :=
  t.slot id = .empty ∧ s.SameSlotsBut t id ∧ s.SameBuffersBut t id ∧
  (∀ b n v, s.buffer id = .filling b n v .inFlight → t.buffer id = .filling b n true .inFlight) ∧
  (∀ b n v, s.buffer id = .filling b n v .waiting → t.buffer id = .empty) ∧
  (∀ b n data, s.buffer id = .valid b n data → t.buffer id = if keepValid then .valid b n data else .empty) ∧
  (s.buffer id = .empty → t.buffer id = .empty) ∧
  t.fillList = s.fillList.filter (fun x => decide (x ≠ id))

/-- The ends of a placement walk, from segment S with offset x and h hops taken (R68 to R70). -/
inductive WalkEnds (s : State) (p : Port) : Nat → Seg → Int → Walk → Prop
  | free {h : Nat} {S : Seg} {x : Int} : (s.desc S).state = .free → WalkEnds s p h S x (.failed S x .notLive)
  | retiring {h : Nat} {S : Seg} {x : Int} : (s.desc S).state = .retiring → WalkEnds s p h S x (.failed S x .segmentRetiring)
  | noRight {h : Nat} {S : Seg} {x : Int} : (s.desc S).state = .live → fget (s.desc S).rights p = .none →
      WalkEnds s p h S x (.failed S x .noRight)
  | start {h : Nat} {S : Seg} {x : Int} : (s.desc S).state = .live → fget (s.desc S).rights p ≠ .none → x < 0 →
      WalkEnds s p h S x (.exhausted S x .atStart)
  | bound {h : Nat} {S : Seg} {x : Int} : (s.desc S).state = .live → fget (s.desc S).rights p ≠ .none → 0 ≤ x → x < (s.desc S).length →
      WalkEnds s p h S x (.bound S x)
  | atEnd {h : Nat} {S : Seg} {x : Int} : (s.desc S).state = .live → fget (s.desc S).rights p ≠ .none → 0 ≤ x → (s.desc S).length ≤ x →
      (s.desc S).link = none → WalkEnds s p h S x (.exhausted S x .atEnd)
  | tooLong {h : Nat} {S T : Seg} {x : Int} : (s.desc S).state = .live → fget (s.desc S).rights p ≠ .none → 0 ≤ x →
      (s.desc S).length ≤ x → (s.desc S).link = some T → h + 1 = 5 →
      WalkEnds s p h S x (.failed T (x - (s.desc S).length) .chainTooLong)
  | hop {h : Nat} {S T : Seg} {x : Int} {w : Walk} : (s.desc S).state = .live → fget (s.desc S).rights p ≠ .none → 0 ≤ x →
      (s.desc S).length ≤ x → (s.desc S).link = some T → h + 1 ≤ 4 →
      WalkEnds s p (h + 1) T (x - (s.desc S).length) w → WalkEnds s p h S x w

/-- From s to t the served cursor takes the end of its walk (R39, R71, R72). -/
def State.Settled (s t : State) (id : CursorId) (origin : Origin) : Walk → Prop
  | .bound S x =>
    t.cursor id =
      { s.cursor id with
        state := .bound, segment := some S, generation := (s.desc S).generation, offset := BitVec.ofInt 32 x,
        writeRight := decide (fget (s.desc S).rights id.port = .readWrite) } ∧
    t.desc S = { s.desc S with bindCount := (s.desc S).bindCount + 1 } ∧ s.SameDescsBut t S ∧ t.notices = s.notices
  | .exhausted S x side =>
    t.cursor id =
      { s.cursor id with
        state := .exhausted side, segment := some S, generation := (s.desc S).generation,
        offset := BitVec.ofInt 32 x, writeRight := decide (fget (s.desc S).rights id.port = .readWrite) } ∧
    t.desc S = { s.desc S with bindCount := (s.desc S).bindCount + 1 } ∧ s.SameDescsBut t S ∧ t.notices = s.notices
  | .failed S x reason =>
    t.cursor id =
      { s.cursor id with
        state := .faulted reason, segment := some S, offset := BitVec.ofInt 32 x, writeRight := false } ∧
    t.dt = s.dt ∧
    t.noticeQueue id.port = (s.noticeQueue id.port).push (.placementFailed id.cursor S reason origin) ∧
    s.SameNoticesBut t id.port

/-- From s to t a cursor's fill arrives: void, with data, or with a failure (R107 to R109). -/
def State.FillDelivered (s t : State) (id : CursorId) (d : Delivery) : Prop :=
  s.SameSlotsBut t id ∧ s.SameBuffersBut t id ∧ t.notices = s.notices ∧ t.postQueue = s.postQueue ∧
  ∀ b n,
    (s.buffer id = .filling b n true .inFlight →
      t.slot id = s.slot id ∧
      (∀ z, s.slot id = .working z →
        t.buffer id = .filling b n false .waiting ∧ t.fillList = s.fillList ++ [id]) ∧
      (s.slot id = .empty → t.buffer id = .empty ∧ t.fillList = s.fillList)) ∧
    (∀ z S, s.buffer id = .filling b n false .inFlight → s.slot id = .working z → (s.cursor id).segment = some S →
      t.fillList = s.fillList ∧
      match d with
      | .ok beats =>
        t.buffer id = .valid b n (beatBytes n beats) ∧
        t.slot id =
          .ready z (.data (blockBytes b (beatBytes n beats) ((s.desc S).base + (s.cursor id).offset) z.bytes))
            (s.port id.port).interval
      | .error => t.buffer id = .empty ∧ t.slot id = .ready z .memoryError (s.port id.port).interval
      | .timeout => t.buffer id = .empty ∧ t.slot id = .ready z .memoryTimeout (s.port id.port).interval)

/-- From s to t the entry ISSUED under a tag completes: it leaves, and a failure is reported to its port (R129,
R130). -/
def State.WriteDelivered (s t : State) (tag : TagNo) (d : Delivery) : Prop :=
  t.buffers = s.buffers ∧ t.slots = s.slots ∧ t.fillList = s.fillList ∧
  ∀ front e rest, s.postQueue = front ++ e :: rest → e.state = .issued tag →
    (∀ x ∈ front ++ rest, x.state ≠ .issued tag) →
    t.postQueue = front ++ rest ∧ s.SameNoticesBut t e.port ∧
    t.noticeQueue e.port =
      match d with
      | .ok _ => s.noticeQueue e.port
      | .error => (s.noticeQueue e.port).push (.writeFailed e.cursor e.segment e.offset e.size .memoryError)
      | .timeout => (s.noticeQueue e.port).push (.writeFailed e.cursor e.segment e.offset e.size .memoryTimeout)

/-- The outcome of a request goes to the owner its tag records (R146, R147). -/
def State.Delivered (s t : State) (tag : TagNo) : TagOwner → Delivery → Prop
  | .fill id, d => s.FillDelivered t id d
  | .write, d => s.WriteDelivered t tag d

/-! ### Invariants -/

/-- Only a CLOSED cursor has no segment, and a CLOSED cursor holds the values of R33 (R31, R33). -/
def State.SegmentsNamed (s : State) : Prop :=
  ∀ id, ((s.cursor id).segment = none → (s.cursor id).state = .closed) ∧
    ((s.cursor id).state = .closed → s.cursor id = Cursor.closed)

/-- At least one port holds TABLE authority (R159). -/
def State.SomeTable (s : State) : Prop := ∃ p, (s.port p).authority = .table

/-- Requests wait on a link only while a response is owed on it (R153). -/
def State.WaitingOwed (s : State) : Prop := ∀ p, (s.link p).waiting ≠ [] → (s.link p).owed ≠ none

/-- A notice queue holds at most 8 notices, and exactly 8 while its overrun mark is set (R175). -/
def State.NoticesBounded (s : State) : Prop :=
  ∀ p, (s.noticeQueue p).items.length ≤ Config.noticeDepth ∧
    ((s.noticeQueue p).overrun = true → (s.noticeQueue p).items.length = Config.noticeDepth)

/-- A stack holds at most 8 contexts (R78). -/
def State.StacksBounded (s : State) : Prop := ∀ p, (s.stack p).length ≤ Config.stackDepth

/-- Tallies and limits are 0 to 15 (R158, R163). -/
def State.TalliesBounded (s : State) : Prop := ∀ p, (s.port p).tally ≤ 15 ∧ (s.port p).limit ≤ 15

/-- All 32 cursors. -/
def allIds : List CursorId := allPorts.flatMap (fun p => allCursorNos.map (fun c => ⟨p, c⟩))

/-- The bindings held on a segment: by cursors, and by contexts of every stack (R5). -/
def State.holders (s : State) (S : Seg) : Nat :=
  allIds.countP (fun id => (s.cursor id).holds S) + (allPorts.map (fun p => s.heldContexts p S)).sum

/-- The bind count of each descriptor is the number of bindings held on it (R5). -/
def State.BindCountsExact (s : State) : Prop := ∀ S, (s.desc S).bindCount = s.holders S

/-- Count and retiring port by a descriptor's state (R6). -/
def Descriptor.LifeOk (d : Descriptor) : Prop :=
  match d.state with
  | .free => d.bindCount = 0 ∧ d.retiringPort = none
  | .live => d.retiringPort = none
  | .retiring => 1 ≤ d.bindCount ∧ d.retiringPort ≠ none

def State.LivesOk (s : State) : Prop := ∀ S, (s.desc S).LifeOk

/-- The values of a LIVE or RETIRING descriptor pass validation; a FREE one holds its reset values (R1, R15, R21). -/
def Descriptor.ValuesOk (d : Descriptor) : Prop :=
  match d.state with
  | .free => d.base = 0 ∧ d.length = 0 ∧ d.link = none ∧ d.rights = Vector.replicate 4 .none ∧ d.depth = 0 ∧ d.keep = false
  | .live => validateRecord d.base d.length d.depth = none
  | .retiring => validateRecord d.base d.length d.depth = none

def State.DescriptorsValid (s : State) : Prop := ∀ S, (s.desc S).ValuesOk

/-- Each map queue holds exactly its port's cursors in a mapping state, each once (R58). -/
def State.MapQueuesExact (s : State) : Prop :=
  ∀ p, (s.mapQueue p).Nodup ∧ ∀ c, c ∈ s.mapQueue p ↔ (s.cursor ⟨p, c⟩).state.isMapping = true

/-- A buffer whose fill stands in the fill request list. -/
def Buffer.isWaiting : Buffer → Bool
  | .filling _ _ _ .waiting => true
  | _ => false

/-- A buffer whose fill is at memory. -/
def Buffer.isInFlight : Buffer → Bool
  | .filling _ _ _ .inFlight => true
  | _ => false

/-- The fill request list holds exactly the cursors whose fill is WAITING, each once (R104). -/
def State.FillListExact (s : State) : Prop :=
  s.fillList.Nodup ∧ ∀ id, id ∈ s.fillList ↔ (s.buffer id).isWaiting = true

/-- The combinations of slot and buffer of R95. -/
def slotBufferOk : Slot → Buffer → Prop
  | .empty, .empty => True
  | .empty, .valid _ _ _ => True
  | .empty, .filling _ _ void pos => void = true ∧ pos = .inFlight
  | .working _, .filling _ _ _ _ => True
  | .working _, .empty => False
  | .working _, .valid _ _ _ => False
  | .ready _ r _, .valid _ _ _ => ∃ bytes, r = .data bytes
  | .ready _ _ _, .empty => True
  | .ready _ _ _, .filling _ _ _ _ => False

def State.SlotsMatchBuffers (s : State) : Prop := ∀ id, slotBufferOk (s.slot id) (s.buffer id)

/-- A slot is WORKING or READY only while its cursor is BOUND (R94). -/
def State.SlotsOnBound (s : State) : Prop := ∀ id, s.slot id ≠ .empty → (s.cursor id).state = .bound

/-- The block of a buffer that a hit may serve, or whose fill in flight will load it: VALID, or IN_FLIGHT and not
void. -/
def Buffer.freshBlock : Buffer → Option (Word × Nat)
  | .valid b n _ => some (b, n)
  | .filling b n false .inFlight => some (b, n)
  | _ => none

/-- No VALID buffer, and no fill in flight that is not void, overlaps a Post Queue entry (R110). -/
def State.BuffersCurrent (s : State) : Prop :=
  ∀ id b n, (s.buffer id).freshBlock = some (b, n) → ∀ e ∈ s.postQueue, e.overlaps b n = false

/-- No two ISSUED entries overlap (R128). -/
def State.IssuedDisjoint (s : State) : Prop :=
  s.postQueue.Pairwise (fun a b =>
    a.state.isIssued = true → b.state.isIssued = true → a.overlaps b.addr b.size.bytes = false)

/-- At most 16 entries, a run of ISSUED ones and then a run of QUEUED ones (R119, R120). -/
def State.QueueOrdered (s : State) : Prop :=
  s.postQueue.length ≤ Config.postQueueDepth ∧
    s.postQueue.Pairwise (fun a b => b.state.isIssued = true → a.state.isIssued = true)

/-- Each BUSY tag carries exactly one fill in flight or one ISSUED entry, and each of these has exactly one BUSY tag
(R139). -/
def State.TagsPaired (s : State) : Prop :=
  (∀ t id n r, s.tag t = .busy (.fill id) n r → (s.buffer id).isInFlight = true) ∧
  (∀ t n r, s.tag t = .busy .write n r → ∃ e ∈ s.postQueue, e.state = .issued t) ∧
  (∀ id, (s.buffer id).isInFlight = true → ∃ t n r, s.tag t = .busy (.fill id) n r) ∧
  (∀ e ∈ s.postQueue, ∀ t, e.state = .issued t → ∃ n r, s.tag t = .busy .write n r) ∧
  (∀ t u id n m r q, s.tag t = .busy (.fill id) n r → s.tag u = .busy (.fill id) m q → t = u) ∧
  s.postQueue.Pairwise (fun a b => ∀ t, a.state = .issued t → b.state ≠ .issued t)

/-- The timer of a BUSY tag is stopped only while its response is in progress (R145, R149). -/
def State.StoppedInProgress (s : State) : Prop :=
  (∀ t o n, s.tag t = .busy o n .stopped → ∃ e d, s.respChannel = .begun t e d) ∧
  (∀ t e d, s.respChannel = .begun t e d → ∃ o n, s.tag t = .busy o n .stopped)

/-- A cursor or context that matches its segment's record: LIVE or RETIRING, of the current generation (R35, R80). -/
def Descriptor.Matches (d : Descriptor) (generation : BitVec 8) : Prop := d.state ≠ .free ∧ generation = d.generation

/-- A BOUND cursor matches its segment and lies inside it; an EXHAUSTED one matches its segment (R35). -/
def State.CursorPlaced (s : State) (id : CursorId) : Prop :=
  match (s.cursor id).state with
  | .bound =>
    ∃ S, (s.cursor id).segment = some S ∧ (s.desc S).Matches (s.cursor id).generation ∧
      0 ≤ (s.cursor id).offset.toInt ∧ (s.cursor id).offset.toInt < (s.desc S).length
  | .exhausted _ => ∃ S, (s.cursor id).segment = some S ∧ (s.desc S).Matches (s.cursor id).generation
  | _ => True

/-- A VALID context matches its segment, and lies inside it when it has no side (R80). -/
def State.ContextPlaced (s : State) (x : Context) : Prop :=
  x.mark = .valid → (s.desc x.segment).Matches x.generation ∧
    (x.side = none → 0 ≤ x.offset.toInt ∧ x.offset.toInt < (s.desc x.segment).length)

/-- The table, the cursors and the contexts agree: R5, R6, R15, R35, R80 together. -/
def State.TableConsistent (s : State) : Prop :=
  s.BindCountsExact ∧ s.LivesOk ∧ s.DescriptorsValid ∧ (∀ id, s.CursorPlaced id) ∧
    ∀ p, ∀ x ∈ s.stack p, s.ContextPlaced x

end Sys2Proof.Machine
end

