-- ==== Sys2Proof/Certificates/Slice0/Obligations.lean ====
section
/-! DEFINITION. Certificates/Slice0/Obligations.lean: the statements for the provers. -/

open Sys2Proof Sys2Proof.Machine

/-! ### The block: queue, link, frames -/

/-- A step runs the command at the front of the queue on the state with the queue's rest; with nothing in the queue
the block idles (the model's choice, log entry 16). -/
def Obligations.StepRunsTheFrontCommand : Prop :=
  (∀ (c : Instr) (s : State), step { s with pending := c :: s.pending } = exec c s) ∧
  (∀ s : State, s.pending = [] → step s = .next s)

/-- Every command has an effect in every state, and a request that is taken has exactly one response owed on its own
link, the other links as they were (R155). No command takes anything from the queue or adds to it, but that the
requests that waited on a link come to its front when that link's response has passed or the part is reset (the
model's choice of how they are offered again, log entry 4). -/
def Obligations.EveryCommandCompletes : Prop :=
  ∀ (i : Instr) (s : State),
    let offered : List Instr :=
      match i with
      | .responseLastWordPassed p => (s.link p).waiting
      | .deviceReset _ => (s.link 0).waiting ++ (s.link 1).waiting ++ (s.link 2).waiting ++ (s.link 3).waiting
      | _ => []
    ∃ t, exec i s = .next t ∧ t.pending = offered ++ s.pending ∧
      ∀ p, i.requestPort = some p → s.requestReady p = true → ∃ r, s.Answers t p r

/-- RESPONSE_LAST_WORD_PASSED ends the obligation of one link, and its request channel is ready again (R153). A request
of the port that comes before waits on the link, behind those that wait there already, and changes nothing else; when
the response has passed, the requests that waited stand at the front of the queue in their order, so that the next step
takes the first of them (the model's choice of where a request waits, log entry 4). -/
def Obligations.LinkOwesOneResponse : Prop :=
  (∀ (p : Port) (s : State), ∃ t, exec (.responseLastWordPassed p) s = .next t ∧
    t.requestReady p = true ∧ t.link p = ⟨none, (s.link p).receiving, []⟩ ∧ s.SameLinksBut t p ∧
    t.pending = (s.link p).waiting ++ s.pending ∧ s.OnlyChanges t [.links, .pending] ∧
    ∀ i rest, (s.link p).waiting = i :: rest → step t = exec i { t with pending := rest ++ s.pending }) ∧
  (∀ (i : Instr) (s : State) (p : Port), i.requestPort = some p → s.requestReady p = false →
    ∃ t, exec i s = .next t ∧ t.link p = { s.link p with waiting := (s.link p).waiting ++ [i] } ∧
      s.SameLinksBut t p ∧ s.OnlyChanges t [.links])

/-- A frame refused BAD_REQUEST changes nothing but the link it is answered on (R154); a WRITE with a number of data
words its SIZE code does not call for is such a frame (R184). That a BAD_REQUEST command is refused whatever its words,
and that a WRITE command may carry a wrong number of them at all, is the model's choice (log entry 14). -/
def Obligations.BadRequestChangesNothing : Prop :=
  (∀ (p : Port) (frame : List Word) (s : State), s.requestReady p = true →
    exec (.badRequest p frame) s = .next (s.answer p (.refused .badRequest))) ∧
  (∀ (p : Port) (target : BitVec 4) (size : BitVec 3) (data : List Word) (s : State), s.requestReady p = true →
    (Instr.write p target size data).wf = false →
    exec (.write p target size data) s = .next (s.answer p (.refused .badRequest)))

/-- The length rule of R184: a frame is a BAD_REQUEST exactly when its code is unknown or its number of argument
words is not one its code, flags and size call for; a WRITE of an undefined size that passes it is refused
BAD_ARGUMENT, naming TARGET where that is out of range and else SIZE. -/
def Obligations.FrameLengthsAreJudged : Prop :=
  (∀ (p : Port) (h : Word) (args : List Word),
    parseFrame p (h :: args) = .badRequest p (h :: args) ↔ ¬ Frame.callsFor h args.length) ∧
  (∀ (p : Port) (h : Word) (args : List Word) (s : State), Frame.code h = 0x05 → 4 ≤ (Frame.size h).toNat →
    args.length ≤ 3 → s.requestReady p = true →
    exec (parseFrame p (h :: args)) s =
      .next (s.answer p (.refused (.badArgument (if 8 ≤ (Frame.target h).toNat then .target else .size)))))

/-- Header bits a request does not use, the reserved bits of every argument word and the fields of a STAGE attributes
word or SET_PORT settings word whose flag is clear have no effect on what a frame is read as; nor have the bytes above
the datum in the data word of a WRITE of 1, 2 or 4 bytes on what the WRITE does. -/
def Obligations.UnusedHeaderBitsAreIgnored : Prop :=
  (∀ (p : Port) (h g : Word) (args others : List Word),
    h &&& Frame.readBits (Frame.code h).toNat = g &&& Frame.readBits (Frame.code h).toNat →
    others.length = args.length →
    List.zipWith (fun a b => a &&& b) args (Frame.argBits h) =
      List.zipWith (fun a b => a &&& b) others (Frame.argBits h) →
    Frame.callsFor h args.length → parseFrame p (h :: args) = parseFrame p (g :: others)) ∧
  (∀ (p : Port) (target : BitVec 4) (size : BitVec 3) (w v : Word) (s : State), s.requestReady p = true →
    size.toNat ≤ 2 →
    w.extractLsb' 0 (8 * (accessSize size).bytes) = v.extractLsb' 0 (8 * (accessSize size).bytes) →
    exec (.write p target size [w]) s = exec (.write p target size [v]) s)

/-- Reading the frame of a well-formed request gives the request back, with every operand. -/
def Obligations.FrameOfEveryRequestReadsBack : Prop :=
  ∀ (i : Instr) (p : Port) (frame : List Word), i.wf = true → encodeFrame i = some (p, frame) →
    parseFrame p frame = i

/-- The fields of a response header stand where section 10.2 puts them, and reserved bits are 0. -/
def Obligations.ResponseHeaderLayout : Prop :=
  ∀ r : Response,
    r.header.extractLsb' 3 5 = 0 ∧ r.header.extractLsb' 20 4 = 0 ∧ r.words.head? = some r.header ∧
    match r with
    | .done st edge aux data =>
      r.header.extractLsb' 0 2 = 0 ∧ r.header.getLsbD 2 = edge ∧ r.header.extractLsb' 8 8 = st.code.1 ∧
        r.header.extractLsb' 16 4 = st.code.2 ∧ r.header.extractLsb' 24 8 = aux ∧ r.words.tail = data
    | .wait w =>
      r.header.extractLsb' 0 2 = 1 ∧ r.header.getLsbD 2 = false ∧ r.header.extractLsb' 8 8 = w.code ∧
        r.header.extractLsb' 16 4 = 0 ∧ r.header.extractLsb' 24 8 = 0 ∧ r.words.tail = []
    | .refused x =>
      r.header.extractLsb' 0 2 = 2 ∧ r.header.getLsbD 2 = false ∧ r.header.extractLsb' 8 8 = x.code.1 ∧
        r.header.extractLsb' 16 4 = x.code.2 ∧ r.header.extractLsb' 24 8 = 0 ∧ r.words.tail = []

/-- Bytes travel little-endian in the words of a WRITE and of a READ's DONE (R154): what a READ sends, a WRITE of
those words writes back, a datum of 1, 2 or 4 bytes stands in the low bytes of one word with 0 above, and a WRITE takes
no byte above it. They stand so on the 64 data lines of a memory write, 0 above the last byte (R144), and in the beats
of a memory read, 8 bytes a beat, the lines above the last byte ignored (R145). -/
def Obligations.DataWordsAreLittleEndian : Prop :=
  (∀ (z : AccessSize) (bytes : List Byte), bytes.length = z.bytes → writeBytes z (readWords z bytes) = bytes) ∧
  (∀ a b c d e f g h : Byte,
    readWords .b1 [a] = [(0 : BitVec 24) ++ a] ∧
    readWords .b2 [a, b] = [(0 : BitVec 16) ++ b ++ a] ∧
    readWords .b4 [a, b, c, d] = [d ++ c ++ b ++ a] ∧
    readWords .b8 [a, b, c, d, e, f, g, h] = [d ++ c ++ b ++ a, h ++ g ++ f ++ e]) ∧
  (∀ w v : Word,
    writeBytes .b1 [w] = [w.extractLsb' 0 8] ∧
    writeBytes .b2 [w] = [w.extractLsb' 0 8, w.extractLsb' 8 8] ∧
    writeBytes .b4 [w] = [w.extractLsb' 0 8, w.extractLsb' 8 8, w.extractLsb' 16 8, w.extractLsb' 24 8] ∧
    writeBytes .b8 [w, v] =
      [w.extractLsb' 0 8, w.extractLsb' 8 8, w.extractLsb' 16 8, w.extractLsb' 24 8,
        v.extractLsb' 0 8, v.extractLsb' 8 8, v.extractLsb' 16 8, v.extractLsb' 24 8]) ∧
  (∀ a b c d e f g h : Byte,
    dataLines [a] = (0 : BitVec 56) ++ a ∧
    dataLines [a, b] = (0 : BitVec 48) ++ b ++ a ∧
    dataLines [a, b, c, d] = (0 : BitVec 32) ++ d ++ c ++ b ++ a ∧
    dataLines [a, b, c, d, e, f, g, h] = h ++ g ++ f ++ e ++ d ++ c ++ b ++ a) ∧
  (∀ (count : Nat) (beats : List Lines) (i : Nat),
    (beatBytes count beats)[i]? =
      if i < count then (beats[i / 8]?).map (fun beat => beat.extractLsb' (8 * (i % 8)) 8) else none)

/-! ### The general checks -/

/-- A request with a field out of its range is refused BAD_ARGUMENT, whatever the port's authority and status, and the
first field out of range is the one named: TARGET, SIZE and PARAM, then the words in frame order, each from its lowest
bits. OPEN and STAGE are written out. -/
def Obligations.FieldsOutOfRangeAreRefused : Prop :=
  (∀ (i : Instr) (p : Port) (f : ArgField) (s : State), i.requestPort = some p → i.wf = true →
    s.requestReady p = true → i.firstOutOfRange = some f →
    exec i s = .next (s.answer p (.refused (.badArgument f)))) ∧
  (∀ i : Instr, i.firstOutOfRange = none ↔ i.FieldsInRange) ∧
  (∀ (p : Port) (t : BitVec 4) (stride : BitVec 16) (segment : BitVec 8) (offset : Word) (g : Option (BitVec 8))
      (s : State), s.requestReady p = true →
    ¬ (Instr.openCursor p t stride segment offset g).FieldsInRange →
    exec (.openCursor p t stride segment offset g) s =
      .next (s.answer p (.refused (.badArgument
        (if 8 ≤ t.toNat then .target
         else if stride.toInt < -128 ∨ 128 < stride.toInt then .stride
         else if 128 ≤ segment.toNat then .segment
         else .offset))))) ∧
  (∀ (p : Port) (base len : Option Word) (link rights : BitVec 8) (depth : BitVec 7) (keep : Option Bool)
      (s : State), s.requestReady p = true →
    ¬ (Instr.stage p base len (some link) (some rights) (some depth) keep).FieldsInRange →
    exec (.stage p base len (some link) (some rights) (some depth) keep) s =
      .next (s.answer p (.refused (.badArgument
        (if 128 ≤ link.toNat ∧ link.toNat ≤ 254 then .next
         else if ∃ q : Port, (rights.extractLsb' (2 * q.val) 2).toNat = 3 then .rights
         else .depth)))))

/-- Checks 3 and 4: an ORDINARY port's TABLE request is refused NOT_AUTHORIZED whatever its status; a QUARANTINED
port's request that R165 bars is refused QUARANTINED. -/
def Obligations.AuthorityThenQuarantineAreChecked : Prop :=
  ∀ (i : Instr) (p : Port) (s : State), i.requestPort = some p → i.wf = true → s.requestReady p = true →
    i.FieldsInRange →
    (i.NeedsTable → (s.port p).authority = .ordinary → exec i s = .next (s.answer p (.refused .notAuthorized))) ∧
    (i.BarredInQuarantine → (i.NeedsTable → (s.port p).authority = .table) → (s.port p).status = .quarantined →
      exec i s = .next (s.answer p (.refused .quarantined)))

/-! ### The descriptor table -/

/-- STAGE writes the fields named into the port's staging record, and nothing else. -/
def Obligations.StageWritesTheFieldsNamed : Prop :=
  ∀ (p : Port) (base len : Option Word) (link rights : Option (BitVec 8)) (depth : Option (BitVec 7))
    (keep : Option Bool) (s : State),
    s.Admits p true false → (Instr.stage p base len link rights depth keep).FieldsInRange →
    ∃ t, exec (.stage p base len link rights depth keep) s = .next t ∧
      s.Took t p (.plain .noState) [.ports] ∧ s.SamePortsBut t p ∧
      t.port p =
        { s.port p with
          staging :=
            { base := base <|> (s.port p).staging.base
              length := len <|> (s.port p).staging.length
              link := link.map linkOf <|> (s.port p).staging.link
              rights := rights.map rightsVec <|> (s.port p).staging.rights
              depth := depth.map (fun x => x.toNat) <|> (s.port p).staging.depth
              keep := keep <|> (s.port p).staging.keep } }

/-- COMMIT to a FREE descriptor with base, length and rights staged and a valid record installs it. -/
def Obligations.CommitInstallsOnFree : Prop :=
  ∀ (p : Port) (segment : BitVec 8) (b n : Word) (r : Vector Rights 4) (s : State),
    let S := segNo segment
    let g := (s.port p).staging
    let d := s.desc S
    s.Admits p true false → segment.toNat < 128 → d.state = .free →
    g.base = some b → g.length = some n → g.rights = some r →
    b.toNat % 64 = 0 → 64 ≤ n.toNat → n.toNat ≤ 16777216 → n.toNat % 64 = 0 → b.toNat + n.toNat ≤ 4294967296 →
    g.depth.getD 0 ∈ [0, 16, 32, 64] →
    ∃ t, exec (.commit p segment) s = .next t ∧
      s.Took t p (.done .noState false 0 [(d.generation + 1).setWidth 32]) [.dt, .ports] ∧
      t.desc S =
        { state := .live, generation := d.generation + 1, base := b, length := n.toNat, rights := r,
          link := g.link.getD none, depth := g.depth.getD 0, keep := g.keep.getD false,
          bindCount := d.bindCount, retiringPort := d.retiringPort } ∧
      s.SameDescsBut t S ∧ t.port p = { s.port p with staging := Staging.empty } ∧ s.SamePortsBut t p

/-- COMMIT to a LIVE descriptor with something staged and a valid resulting record replaces it: each staged field,
the next generation, the same state, count and retiring port. -/
def Obligations.CommitReplacesOnLive : Prop :=
  ∀ (p : Port) (segment : BitVec 8) (s : State),
    let S := segNo segment
    let g := (s.port p).staging
    let d := s.desc S
    let b := g.base.getD d.base
    let n := (g.length.map (fun x => x.toNat)).getD d.length
    let k := g.depth.getD d.depth
    s.Admits p true false → segment.toNat < 128 → d.state = .live → g ≠ Staging.empty →
    b.toNat % 64 = 0 → 64 ≤ n → n ≤ 16777216 → n % 64 = 0 → b.toNat + n ≤ 4294967296 → k ∈ [0, 16, 32, 64] →
    ∃ t, exec (.commit p segment) s = .next t ∧
      s.Took t p (.done .noState false 0 [(d.generation + 1).setWidth 32])
        [.dt, .ports, .cursors, .mapQueues, .ctxStacks, .slots, .buffers, .fillList] ∧
      t.desc S =
        { d with
          generation := d.generation + 1, base := b, length := n, link := g.link.getD d.link,
          rights := g.rights.getD d.rights, depth := k, keep := g.keep.getD d.keep } ∧
      s.SameDescsBut t S ∧ t.port p = { s.port p with staging := Staging.empty } ∧ s.SamePortsBut t p

/-- The replacement broadcast, in the event of the COMMIT: cursors BOUND or EXHAUSTED on the segment become
REVALIDATING and join their port's map queue in increasing number, VALID contexts on it become STALE, and the read
activity of those cursors is cancelled, with no notice, no tally and no bind count changed. -/
def Obligations.ReplacementReachesEveryHolder : Prop :=
  ∀ (p : Port) (segment : BitVec 8) (s : State),
    let S := segNo segment
    let g := (s.port p).staging
    let d := s.desc S
    let turned (id : CursorId) : Prop :=
      (s.cursor id).segment = some S ∧ ((s.cursor id).state = .bound ∨ ∃ e, (s.cursor id).state = .exhausted e)
    s.Admits p true false → segment.toNat < 128 → d.state = .live → g ≠ Staging.empty →
    validateRecord (g.base.getD d.base) ((g.length.map (fun x => x.toNat)).getD d.length) (g.depth.getD d.depth) = none →
    ∃ t, exec (.commit p segment) s = .next t ∧
      (∀ id, turned id →
        t.cursor id = { s.cursor id with state := .revalidating } ∧ t.slot id = .empty ∧
        t.buffer id = (s.buffer id).cancelled false ∧ id ∉ t.fillList) ∧
      (∀ id, ¬ turned id →
        t.cursor id = s.cursor id ∧ t.slot id = s.slot id ∧ t.buffer id = s.buffer id ∧
        (id ∈ t.fillList ↔ id ∈ s.fillList)) ∧
      t.fillList.Sublist s.fillList ∧
      (∀ q, ∃ joined : List CursorNo, t.mapQueue q = s.mapQueue q ++ joined ∧ joined.Pairwise (fun a b => a < b) ∧
        ∀ c, c ∈ joined ↔ turned ⟨q, c⟩) ∧
      (∀ q, t.stack q =
        (s.stack q).map (fun x => if x.segment = S ∧ x.mark = .valid then { x with mark := .stale } else x)) ∧
      t.notices = s.notices ∧ (∀ q, (t.port q).tally = (s.port q).tally) ∧
      (∀ T, (t.desc T).bindCount = (s.desc T).bindCount)

/-- COMMIT's own checks, in order: NOTHING_STAGED, SEGMENT_RETIRING, the first unstaged of base, length and rights on
a FREE descriptor, then validation of the record it would produce. A refusal changes nothing else. -/
def Obligations.CommitRefusalsInOrder : Prop :=
  ∀ (p : Port) (segment : BitVec 8) (s : State),
    let S := segNo segment
    let g := (s.port p).staging
    let d := s.desc S
    let refused (r : Reason) : Prop := exec (.commit p segment) s = .next (s.answer p (.refused r))
    let invalid (b : Word) (n k : Nat) : Prop :=
      ¬ (b.toNat % 64 = 0 ∧ 64 ≤ n ∧ n ≤ 16777216 ∧ n % 64 = 0 ∧ b.toNat + n ≤ 4294967296 ∧ k ∈ [0, 16, 32, 64])
    let fault (b : Word) (n : Nat) : DescField :=
      if b.toNat % 64 ≠ 0 then .base
      else if n < 64 ∨ 16777216 < n ∨ n % 64 ≠ 0 ∨ 4294967296 < b.toNat + n then .length
      else .depth
    s.Admits p true false → segment.toNat < 128 →
    (g = Staging.empty → refused .nothingStaged) ∧
    (g ≠ Staging.empty → d.state = .retiring → refused .segmentRetiring) ∧
    (g ≠ Staging.empty → d.state = .free → g.base = none → refused (.badDescriptor .base)) ∧
    (g.base ≠ none → d.state = .free → g.length = none → refused (.badDescriptor .length)) ∧
    (g.base ≠ none → g.length ≠ none → d.state = .free → g.rights = none → refused (.badDescriptor .rights)) ∧
    (∀ b n r, g.base = some b → g.length = some n → g.rights = some r → d.state = .free →
      invalid b n.toNat (g.depth.getD 0) → refused (.badDescriptor (fault b n.toNat))) ∧
    (g ≠ Staging.empty → d.state = .live →
      invalid (g.base.getD d.base) ((g.length.map (fun x => x.toNat)).getD d.length) (g.depth.getD d.depth) →
      refused (.badDescriptor
        (fault (g.base.getD d.base) ((g.length.map (fun x => x.toNat)).getD d.length))))

/-- RETIRE where no holder is revoked: refused NOT_LIVE on FREE, freed at once on LIVE with count 0 in either mode;
GRACEFUL makes a LIVE descriptor with holders RETIRING and is refused on RETIRING. -/
def Obligations.RetireWithoutRevocation : Prop :=
  ∀ (p : Port) (mode segment : BitVec 8) (s : State),
    let S := segNo segment
    let d := s.desc S
    s.Admits p true false → mode.toNat < 2 → segment.toNat < 128 →
    (d.state = .free → exec (.retire p mode segment) s = .next (s.answer p (.refused .notLive))) ∧
    (d.state = .live → d.bindCount = 0 → ∃ t, exec (.retire p mode segment) s = .next t ∧
      s.Took t p (.done .retireComplete false 0 [(d.generation + 1).setWidth 32]) [.dt] ∧
      t.desc S = { Descriptor.reset with generation := d.generation + 1 } ∧ s.SameDescsBut t S) ∧
    (d.state = .live → d.bindCount ≠ 0 → mode = 0 → ∃ t, exec (.retire p mode segment) s = .next t ∧
      s.Took t p (.done .retirePending false 0 [d.generation.setWidth 32]) [.dt] ∧
      t.desc S = { d with state := .retiring, retiringPort := some p } ∧ s.SameDescsBut t S) ∧
    (d.state = .retiring → mode = 0 →
      exec (.retire p mode segment) s = .next (s.answer p (.refused .segmentRetiring)))

/-- Forced RETIRE of a LIVE descriptor with holders or of a RETIRING one: the descriptor is freed, every holder is
revoked with its read activity cancelled, each affected port is told its counts, and then the recorded port. -/
def Obligations.ForcedRetireRevokesEveryHolder : Prop :=
  ∀ (p : Port) (segment : BitVec 8) (s : State),
    let S := segNo segment
    let d := s.desc S
    let holds (id : CursorId) : Prop :=
      (s.cursor id).segment = some S ∧
        ((s.cursor id).state = .bound ∨ (∃ e, (s.cursor id).state = .exhausted e) ∨
          (s.cursor id).state = .revalidating)
    s.Admits p true false → segment.toNat < 128 →
    d.state = .retiring ∨ d.state = .live ∧ d.bindCount ≠ 0 →
    ∃ t, exec (.retire p 1 segment) s = .next t ∧
      s.Took t p (.done .retireComplete false 0 [(d.generation + 1).setWidth 32])
        [.dt, .cursors, .mapQueues, .ctxStacks, .slots, .buffers, .fillList, .notices] ∧
      t.desc S = { Descriptor.reset with generation := d.generation + 1 } ∧ s.SameDescsBut t S ∧
      (∀ id, holds id →
        t.cursor id = { s.cursor id with state := .faulted .revoked, writeRight := false } ∧ t.slot id = .empty ∧
        t.buffer id = (s.buffer id).cancelled false ∧ id ∉ t.fillList ∧ id.cursor ∉ t.mapQueue id.port) ∧
      (∀ id, ¬ holds id →
        t.cursor id = s.cursor id ∧ t.slot id = s.slot id ∧ t.buffer id = s.buffer id ∧
        (id ∈ t.fillList ↔ id ∈ s.fillList) ∧ (id.cursor ∈ t.mapQueue id.port ↔ id.cursor ∈ s.mapQueue id.port)) ∧
      t.fillList.Sublist s.fillList ∧ (∀ q, (t.mapQueue q).Sublist (s.mapQueue q)) ∧
      (∀ q, t.stack q =
        (s.stack q).map (fun x => if x.segment = S ∧ x.mark ≠ .revoked then { x with mark := .revoked } else x)) ∧
      (∀ q, t.noticeQueue q =
        ((if s.heldCursors q S = 0 ∧ s.heldContexts q S = 0 then []
          else [Notice.revoked S (s.heldCursors q S) (s.heldContexts q S)]) ++
         (if d.state = .retiring ∧ d.retiringPort = some q then [Notice.retireComplete S .forced] else [])).foldl
          NoticeQueue.push (s.noticeQueue q))

/-- QUERY_SEGMENT changes nothing, and its words carry the record in the places of section 10.3. -/
def Obligations.QuerySegmentReportsTheRecord : Prop :=
  ∀ (p : Port) (part segment : BitVec 8) (s : State),
    let d := s.desc (segNo segment)
    s.Admits p false true → part.toNat < 2 → segment.toNat < 128 →
    ∃ w0 w1, exec (.querySegment p part segment) s = .next (s.answer p (.done .noState false 0 [w0, w1])) ∧
      (part = 0 → d.bindCount ≤ 64 → d.depth ≤ 64 →
        w0.extractLsb' 0 8 = d.generation ∧ w0.extractLsb' 8 2 = d.state.code ∧ w0.extractLsb' 10 6 = 0 ∧
        (w0.extractLsb' 16 7).toNat = d.bindCount ∧ w0.getLsbD 23 = false ∧
        w0.getLsbD 26 = d.retiringPort.isSome ∧ w0.extractLsb' 27 5 = 0 ∧
        (w0.extractLsb' 24 2).toNat = (d.retiringPort.getD 0).val ∧
        w1.extractLsb' 0 8 = segField d.link ∧ (∀ q : Port, w1.extractLsb' (8 + 2 * q.val) 2 = (fget d.rights q).code) ∧
        (w1.extractLsb' 16 7).toNat = d.depth ∧ w1.getLsbD 23 = false ∧ w1.getLsbD 24 = d.keep ∧
        w1.extractLsb' 25 7 = 0) ∧
      (part = 1 → d.length ≤ 16777216 →
        w0 = d.base ∧ w1.extractLsb' 0 8 = d.generation ∧ (w1.extractLsb' 8 19).toNat = d.length / 64 ∧
        w1.extractLsb' 27 5 = 0)

/-! ### Cursors -/

/-- OPEN of a CLOSED or FAULTED cursor writes its record and queues it for placement. -/
def Obligations.OpenQueuesTheCursor : Prop :=
  ∀ (p : Port) (target : BitVec 4) (stride : BitVec 16) (segment : BitVec 8) (offset : Word)
    (g : Option (BitVec 8)) (s : State),
    let id := cursorOf p target
    s.Admits p false false → (Instr.openCursor p target stride segment offset g).FieldsInRange →
    (s.cursor id).state = .closed ∨ (∃ r, (s.cursor id).state = .faulted r) →
    ∃ t, exec (.openCursor p target stride segment offset g) s = .next t ∧
      s.Took t p (.done .binding false 0 []) [.cursors, .mapQueues] ∧
      t.cursor id =
        { state := .binding g, segment := some (segNo segment), generation := 0, offset := offset,
          stride := stride, writeRight := false } ∧
      s.SameCursorsBut t id ∧ t.mapQueue p = s.mapQueue p ++ [id.cursor] ∧ s.SameMapQueuesBut t p

/-- What a cursor's state refuses: OPEN of one in use, SEEK, PUSH and POP by state, PUSH on a full and POP on an
empty stack, SEEK past the end. A refusal changes nothing else. -/
def Obligations.CursorStatesRefuse : Prop :=
  ∀ (p : Port) (target : BitVec 4) (s : State),
    let id := cursorOf p target
    let st := (s.cursor id).state
    let mapping : Prop := (∃ e, st = .binding e) ∨ st = .crossing ∨ st = .revalidating
    let refused (i : Instr) (r : Reason) : Prop := exec i s = .next (s.answer p (.refused r))
    s.Admits p false false → target.toNat < 8 →
    (∀ stride segment offset g, (Instr.openCursor p target stride segment offset g).FieldsInRange →
      mapping ∨ st = .bound ∨ (∃ e, st = .exhausted e) →
      refused (.openCursor p target stride segment offset g) .cursorInUse) ∧
    (∀ offset stride, (Instr.seek p target offset stride).FieldsInRange →
      (mapping → refused (.seek p target offset stride) .cursorBusy) ∧
      (st = .closed → refused (.seek p target offset stride) .cursorNotBound) ∧
      (∀ r, st = .faulted r → refused (.seek p target offset stride) (.cursorFaulted r)) ∧
      (∀ S, st = .bound ∨ (∃ e, st = .exhausted e) → (s.cursor id).segment = some S →
        (s.desc S).length ≤ offset.toNat → refused (.seek p target offset stride) .outOfRange)) ∧
    (st = .closed ∨ (∃ e, st = .binding e) ∨ st = .crossing ∨ (∃ r, st = .faulted r) →
      refused (.push p target) .cursorNotBound) ∧
    (∀ S, st = .bound ∨ (∃ e, st = .exhausted e) ∨ st = .revalidating → (s.cursor id).segment = some S →
      8 ≤ (s.stack p).length → refused (.push p target) .stackFull) ∧
    (∀ k : BitVec 8, k.toNat < 16 →
      (mapping → refused (.pop p target k) .cursorBusy) ∧
      (¬ mapping → s.stack p = [] → refused (.pop p target k) .stackEmpty))

/-- SEEK inside the segment makes the cursor BOUND there, keeps segment, generation, write right and binding, and
cancels its read, a VALID buffer kept. -/
def Obligations.SeekMovesTheCursor : Prop :=
  ∀ (p : Port) (target : BitVec 4) (offset : Word) (stride : Option (BitVec 16)) (S : Seg) (s : State),
    let id := cursorOf p target
    let c := s.cursor id
    s.Admits p false false → (Instr.seek p target offset stride).FieldsInRange →
    c.state = .bound ∨ (∃ e, c.state = .exhausted e) → c.segment = some S → offset.toNat < (s.desc S).length →
    ∃ t, exec (.seek p target offset stride) s = .next t ∧
      t.cursor id = { c with state := .bound, offset := offset, stride := stride.getD c.stride } ∧
      s.SameCursorsBut t id ∧ s.Cancelled t id true ∧
      s.Took t p (.done .bound (edgeFlag (s.desc S).length (t.cursor id)) 0 []) [.cursors, .slots, .buffers, .fillList]

/-- CLOSE of a CLOSED cursor changes nothing; of any other it releases the binding held, leaves the map queue, cancels
the read activity and clears the record. It is taken from a quarantined port. -/
def Obligations.CloseLetsGo : Prop :=
  ∀ (p : Port) (target : BitVec 4) (s : State),
    let id := cursorOf p target
    let c := s.cursor id
    s.Admits p false true → target.toNat < 8 →
    (c.state = .closed → exec (.closeCursor p target) s = .next (s.answer p (.done .closed false 0 []))) ∧
    (c.state ≠ .closed → ∃ t, exec (.closeCursor p target) s = .next t ∧
      s.Took t p (.done .closed false 0 [])
        [.dt, .notices, .mapQueues, .slots, .buffers, .fillList, .cursors] ∧
      t.cursor id = Cursor.closed ∧ s.SameCursorsBut t id ∧ s.Cancelled t id false ∧
      t.mapQueue p = (s.mapQueue p).filter (fun x => decide (x ≠ id.cursor)) ∧ s.SameMapQueuesBut t p ∧
      (∀ S, c.state = .bound ∨ (∃ e, c.state = .exhausted e) ∨ c.state = .revalidating → c.segment = some S →
        s.Released t S) ∧
      ((∃ e, c.state = .binding e) ∨ c.state = .crossing ∨ (∃ r, c.state = .faulted r) →
        t.dt = s.dt ∧ t.notices = s.notices))

/-- QUERY_CURSOR changes nothing, and its words carry the report in the places of section 10.3. -/
def Obligations.QueryCursorReportsTheCursor : Prop :=
  ∀ (p : Port) (target : BitVec 4) (part : BitVec 8) (s : State),
    let id := cursorOf p target
    let c := s.cursor id
    s.Admits p false true → target.toNat < 8 → part.toNat < 2 →
    ∃ w0 w1, exec (.queryCursor p target part) s = .next (s.answer p (.done c.state.code false 0 [w0, w1])) ∧
      (part = 0 →
        w0.extractLsb' 0 8 = segField c.segment ∧ w0.extractLsb' 8 8 = c.generation ∧
        w0.extractLsb' 16 16 = c.stride ∧ w1 = c.offset) ∧
      (part = 1 →
        w0.getLsbD 0 = c.writeRight ∧ w0.extractLsb' 1 2 = c.state.sideField ∧ w0.getLsbD 3 = false ∧
        w0.extractLsb' 4 3 = c.state.faultField ∧ w0.getLsbD 7 = c.state.expected.isSome ∧
        w0.extractLsb' 8 8 = c.state.expected.getD 0 ∧ w0.extractLsb' 16 2 = (s.slot id).stateField ∧
        w0.extractLsb' 18 2 = (s.slot id).sizeField ∧ w0.extractLsb' 20 2 = (s.buffer id).stateField ∧
        w0.getLsbD 22 = (s.buffer id).voidField ∧ w0.getLsbD 23 = (s.buffer id).posField ∧
        w0.extractLsb' 24 3 = (s.buffer id).countField ∧ w0.extractLsb' 27 5 = 0 ∧ w1 = (s.buffer id).baseField)

/-- READ and WRITE by cursor state, and checks 1 to 4 of R41 in order: the access is answered so and nothing else
changes. -/
def Obligations.AccessesAreJudgedInOrder : Prop :=
  ∀ (p : Port) (target : BitVec 4) (size : BitVec 3) (data : List Word) (s : State),
    let id := cursorOf p target
    let c := s.cursor id
    let z := accessSize size
    let rd : Instr := .read p target size
    let wr : Instr := .write p target size data
    let answered (i : Instr) (r : Response) : Prop := exec i s = .next (s.answer p r)
    s.Admits p false false → target.toNat < 8 → size.toNat < 4 → wr.wf = true →
    (∀ i ∈ [rd, wr],
      ((∃ e, c.state = .binding e) ∨ c.state = .crossing ∨ c.state = .revalidating → answered i (.wait .mapping)) ∧
      (c.state = .closed → answered i (.refused .cursorNotBound)) ∧
      (∀ r, c.state = .faulted r → answered i (.refused (.cursorFaulted r))) ∧
      (∀ e, c.state = .exhausted e → answered i (.refused (.endOfSegment e))) ∧
      (∀ S, c.state = .bound → c.segment = some S →
        ((s.desc S).length < c.offset.toInt + z.bytes → answered i (.refused .boundary)) ∧
        (c.offset.toInt + z.bytes ≤ (s.desc S).length → c.offset.toNat % z.bytes ≠ 0 →
          answered i (.refused .misaligned)))) ∧
    (∀ S, s.AccessPasses id S z →
      (c.writeRight = false → answered wr (.refused .noWriteRight)) ∧
      (c.writeRight = true → s.slot id ≠ .empty → answered wr (.refused .cursorBusy)) ∧
      (c.writeRight = true → s.slot id = .empty → 16 ≤ s.postQueue.length → answered wr (.wait .queueFull)))

/-- EDGE is set exactly for a cursor left BOUND in the last 16 bytes with a stride above 0 or the first 16 with one
below 0, judged so in the DONE of READ, WRITE and SEEK by the length of the cursor's own segment; no other response sets
it. -/
def Obligations.EdgeMarksTheLastSixteenBytes : Prop :=
  (∀ (length : Nat) (c : Cursor), edgeFlag length c = true ↔
    c.state = .bound ∧
      ((0 < c.stride.toInt ∧ (length : Int) - c.offset.toInt ≤ 16) ∨ (c.stride.toInt < 0 ∧ c.offset.toInt < 16))) ∧
  (∀ (i : Instr) (p : Port) (s : State), i.requestPort = some p → s.requestReady p = true →
    (∀ t z, i ≠ .read p t z) → (∀ t z d, i ≠ .write p t z d) → (∀ t o x, i ≠ .seek p t o x) →
    ∃ t, exec i s = .next t ∧ ∀ st edge aux data, (t.link p).owed = some (.done st edge aux data) → edge = false) ∧
  (∀ (i : Instr) (p : Port) (target : BitVec 4) (s : State), s.requestReady p = true →
    (∃ z, i = .read p target z) ∨ (∃ z d, i = .write p target z d) ∨ (∃ o x, i = .seek p target o x) →
    ∃ t, exec i s = .next t ∧ ∀ st edge aux data, (t.link p).owed = some (.done st edge aux data) →
      ∃ S, (s.cursor (cursorOf p target)).segment = some S ∧
        edge = edgeFlag (s.desc S).length (t.cursor (cursorOf p target))) ∧
  (∀ r : Response, (∀ st edge aux data, r ≠ .done st edge aux data) → r.header.getLsbD 2 = false)

/-! ### The read path and the Post Queue -/

/-- A hit is DONE with the buffer's bytes, advances the cursor, and keeps the buffer only with keep on. -/
def Obligations.ReadHitDeliversAndAdvances : Prop :=
  ∀ (p : Port) (target : BitVec 4) (size : BitVec 3) (S : Seg) (base : Word) (n : Nat) (bytes : List Byte)
    (s : State),
    let id := cursorOf p target
    let z := accessSize size
    let d := s.desc S
    let a := d.base + (s.cursor id).offset
    s.Admits p false false → target.toNat < 8 → size.toNat < 4 → s.AccessPasses id S z → s.slot id = .empty →
    s.buffer id = .valid base n bytes → base.toNat ≤ a.toNat → a.toNat + z.bytes ≤ base.toNat + n →
    ∃ t, exec (.read p target size) s = .next t ∧ s.Advanced t id S 1 ∧
      t.buffer id = (if d.keep then .valid base n bytes else .empty) ∧ s.SameBuffersBut t id ∧
      s.Took t p
        (.done (t.cursor id).state.code (edgeFlag d.length (t.cursor id)) 0
          (readWords z ((bytes.drop (a.toNat - base.toNat)).take z.bytes)))
        [.cursors, .dt, .notices, .mapQueues, .freeCount, .buffers]

/-- A miss makes the slot WORKING and the buffer FILLING for the block of R93, and queues the fill; a READ that finds
a fill in flight retargets it and queues nothing. Both are answered WAIT(FETCHING). -/
def Obligations.ReadMissStartsAFill : Prop :=
  ∀ (p : Port) (target : BitVec 4) (size : BitVec 3) (S : Seg) (s : State),
    let id := cursorOf p target
    let z := accessSize size
    let d := s.desc S
    let a := d.base + (s.cursor id).offset
    let base : Word := if d.depth = 0 then a else BitVec.ofNat 32 (a.toNat / d.depth * d.depth)
    let n : Nat := if d.depth = 0 then z.bytes else d.depth
    s.Admits p false false → target.toNat < 8 → size.toNat < 4 → s.AccessPasses id S z → s.slot id = .empty →
    ((s.buffer id = .empty ∨ ∃ b m bytes, s.buffer id = .valid b m bytes ∧
        ¬ (b.toNat ≤ a.toNat ∧ a.toNat + z.bytes ≤ b.toNat + m)) →
      ∃ t, exec (.read p target size) s = .next t ∧
        s.Took t p (.wait .fetching) [.slots, .buffers, .fillList] ∧ t.slot id = .working z ∧ s.SameSlotsBut t id ∧
        t.buffer id = .filling base n false .waiting ∧ s.SameBuffersBut t id ∧ t.fillList = s.fillList ++ [id]) ∧
    (∀ b m, s.buffer id = .filling b m true .inFlight →
      ∃ t, exec (.read p target size) s = .next t ∧
        s.Took t p (.wait .fetching) [.slots, .buffers] ∧ t.slot id = .working z ∧ s.SameSlotsBut t id ∧
        t.buffer id = .filling base n true .inFlight ∧ s.SameBuffersBut t id)

/-- A READ on a WORKING slot of the same size waits again; on a WORKING or READY slot of another size it is refused
READ_MISMATCH with the pending size; neither changes anything. -/
def Obligations.ReadOfABusySlot : Prop :=
  ∀ (p : Port) (target : BitVec 4) (size : BitVec 3) (S : Seg) (s : State),
    let id := cursorOf p target
    let z := accessSize size
    s.Admits p false false → target.toNat < 8 → size.toNat < 4 → s.AccessPasses id S z →
    (s.slot id = .working z → exec (.read p target size) s = .next (s.answer p (.wait .fetching))) ∧
    (∀ y, y ≠ z → s.slot id = .working y →
      exec (.read p target size) s = .next (s.answer p (.refused (.readMismatch y)))) ∧
    (∀ y r i, y ≠ z → s.slot id = .ready y r i →
      exec (.read p target size) s = .next (s.answer p (.refused (.readMismatch y))))

/-- Collecting data: DONE with the slot's bytes, the cursor advances, the slot empties, the tally is 0, and a VALID
buffer stays only with keep on. -/
def Obligations.CollectionDeliversAndAdvances : Prop :=
  ∀ (p : Port) (target : BitVec 4) (size : BitVec 3) (S : Seg) (bytes : List Byte) (i : Interval) (s : State),
    let id := cursorOf p target
    let z := accessSize size
    let d := s.desc S
    s.Admits p false false → target.toNat < 8 → size.toNat < 4 → s.AccessPasses id S z →
    s.slot id = .ready z (.data bytes) i →
    ∃ t, exec (.read p target size) s = .next t ∧ s.Advanced t id S 1 ∧
      t.slot id = .empty ∧ s.SameSlotsBut t id ∧ t.port p = { s.port p with tally := 0 } ∧ s.SamePortsBut t p ∧
      s.SameBuffersBut t id ∧
      (∀ b n data, s.buffer id = .valid b n data → t.buffer id = if d.keep then .valid b n data else .empty) ∧
      (s.buffer id = .empty → t.buffer id = .empty) ∧
      s.Took t p
        (.done (t.cursor id).state.code (edgeFlag d.length (t.cursor id)) 0 (readWords z bytes))
        [.cursors, .dt, .notices, .mapQueues, .freeCount, .buffers, .slots, .ports]

/-- Collecting a failure: REFUSED with it, the slot empties, the tally is 0, and the cursor is not moved. -/
def Obligations.FailureIsCollectedOnce : Prop :=
  ∀ (p : Port) (target : BitVec 4) (size : BitVec 3) (S : Seg) (i : Interval) (s : State),
    let id := cursorOf p target
    let z := accessSize size
    s.Admits p false false → target.toNat < 8 → size.toNat < 4 → s.AccessPasses id S z →
    ∀ failure reason, (failure, reason) ∈ [(ReadResult.memoryError, Reason.memoryError),
        (ReadResult.memoryTimeout, Reason.memoryTimeout)] →
      s.slot id = .ready z failure i →
      ∃ t, exec (.read p target size) s = .next t ∧ s.Took t p (.refused reason) [.slots, .ports] ∧
        t.slot id = .empty ∧ s.SameSlotsBut t id ∧ t.port p = { s.port p with tally := 0 } ∧ s.SamePortsBut t p

/-- An accepted WRITE: the entry at the tail with the address, place and bytes of the event; the sweep of every
buffer; the cursor's advance; DONE. -/
def Obligations.WriteIsPosted : Prop :=
  ∀ (p : Port) (target : BitVec 4) (size : BitVec 3) (data : List Word) (S : Seg) (s : State),
    let id := cursorOf p target
    let z := accessSize size
    let c := s.cursor id
    let d := s.desc S
    let e : PostEntry :=
      { port := p, cursor := id.cursor, addr := d.base + c.offset, size := z, data := writeBytes z data,
        segment := S, offset := c.offset, state := .queued }
    let hits (b : Word) (n : Nat) : Prop := e.addr.toNat < b.toNat + n ∧ b.toNat < e.addr.toNat + z.bytes
    s.Admits p false false → target.toNat < 8 → size.toNat < 4 → (Instr.write p target size data).wf = true →
    s.AccessPasses id S z → c.writeRight = true → s.slot id = .empty → s.postQueue.length < 16 →
    ∃ t, exec (.write p target size data) s = .next t ∧ s.Advanced t id S 1 ∧ t.postQueue = s.postQueue ++ [e] ∧
      (∀ x, s.buffer x = .empty → t.buffer x = .empty) ∧
      (∀ x b n bytes, s.buffer x = .valid b n bytes →
        (hits b n → t.buffer x = .empty) ∧ (¬ hits b n → t.buffer x = s.buffer x)) ∧
      (∀ x b n v pos, s.buffer x = .filling b n v pos →
        (hits b n → t.buffer x = .filling b n true pos) ∧ (¬ hits b n → t.buffer x = s.buffer x)) ∧
      s.Took t p (.done (t.cursor id).state.code (edgeFlag d.length (t.cursor id)) 0 [])
        [.cursors, .dt, .notices, .mapQueues, .freeCount, .buffers, .postQueue]

/-! ### The Placement Engine -/

/-- The port a service is taken for: an eligible one, HIGH before LOW, and at its level the first after that level's
mark in cyclic order, the mark itself last; none exactly when no port is eligible. -/
def Obligations.ServiceChoosesByPriorityAndRotation : Prop :=
  ∀ s : State,
    let eligible (p : Port) : Prop := (s.port p).status = .active ∧ s.mapQueue p ≠ []
    let mark (l : Priority) : Port := match l with | .high => s.markHigh | .low => s.markLow
    (s.pickPort = none ↔ ∀ p, ¬ eligible p) ∧
    ∀ p l, s.pickPort = some (p, l) →
      eligible p ∧ (s.port p).priority = l ∧ (l = .low → ∀ q, eligible q → (s.port q).priority = .low) ∧
      ∀ q, eligible q → (s.port q).priority = l → (p - mark l - 1).val ≤ (q - mark l - 1).val

/-- The walk, with 4 hops at most, ends as the rules of life, rights, links and offsets say. An expected generation is
compared with the start segment's first, whatever its state; without one, or equal, the walk starts with no hop
taken. -/
def Obligations.WalkFollowsAtMostFourLinks : Prop :=
  ∀ (s : State) (p : Port) (h : Nat) (S : Seg) (x : Int) (w : Walk), h ≤ 4 →
    (walk s p (4 - h) S x = w ↔ WalkEnds s p h S x w) ∧
    (placementWalk s p S x none = w ↔ WalkEnds s p 0 S x w) ∧
    (placementWalk s p S x (some (s.desc S).generation) = w ↔ WalkEnds s p 0 S x w) ∧
    (∀ g, g ≠ (s.desc S).generation → placementWalk s p S x (some g) = .failed S x .generationMismatch)

/-- PLACEMENT_SERVICE serves the head cursor of the port chosen: the entry leaves, the level's mark is set, a
REVALIDATING cursor's binding is released first, and the walk's end is taken. With no port eligible nothing
changes (the model's choice of a total answer, log entry 5). -/
def Obligations.ServicePlacesTheHeadCursor : Prop :=
  ∀ s : State,
    (s.pickPort = none → exec .placementService s = .next s) ∧
    ∀ p l c rest S, s.pickPort = some (p, l) → s.mapQueue p = c :: rest → (s.cursor ⟨p, c⟩).segment = some S →
      (s.cursor ⟨p, c⟩).state.isMapping = true →
      ∃ t, exec .placementService s = .next t ∧
        s.OnlyChanges t [.mapQueues, .markHigh, .markLow, .cursors, .dt, .notices] ∧
        t.mapQueue p = rest ∧ s.SameMapQueuesBut t p ∧ s.SameCursorsBut t ⟨p, c⟩ ∧
        (l = .high → t.markHigh = p ∧ t.markLow = s.markLow) ∧ (l = .low → t.markLow = p ∧ t.markHigh = s.markHigh) ∧
        (∀ e, (s.cursor ⟨p, c⟩).state = .binding e →
          s.Settled t ⟨p, c⟩ .opened (placementWalk s p S (s.cursor ⟨p, c⟩).offset.toInt e)) ∧
        ((s.cursor ⟨p, c⟩).state = .crossing →
          s.Settled t ⟨p, c⟩ .cross (placementWalk s p S (s.cursor ⟨p, c⟩).offset.toInt none)) ∧
        ((s.cursor ⟨p, c⟩).state = .revalidating →
          ∃ u, s.OnlyChanges u [.dt, .notices] ∧ ((s.desc S).state ≠ .free → s.Released u S) ∧
            u.Settled t ⟨p, c⟩ .revalidate (placementWalk u p S (s.cursor ⟨p, c⟩).offset.toInt none))

/-! ### Context stacks -/

/-- PUSH of a cursor that holds a binding, with room: the context on top, a claim, and the cursor unchanged. -/
def Obligations.PushSavesAContext : Prop :=
  ∀ (p : Port) (target : BitVec 4) (S : Seg) (s : State),
    let id := cursorOf p target
    let c := s.cursor id
    let saved (side : Option Side) (mark : Mark) : Context :=
      { segment := S, generation := c.generation, offset := c.offset, stride := c.stride,
        writeRight := c.writeRight, side := side, mark := mark }
    let pushed (side : Option Side) (mark : Mark) (code : StateCode) : Prop :=
      ∃ t, exec (.push p target) s = .next t ∧
        s.Took t p (.done code false (auxField ((s.stack p).length + 1) mark.code false) []) [.dt, .ctxStacks] ∧
        t.stack p = saved side mark :: s.stack p ∧ s.SameStacksBut t p ∧
        t.desc S = { s.desc S with bindCount := (s.desc S).bindCount + 1 } ∧ s.SameDescsBut t S
    s.Admits p false false → target.toNat < 8 → c.segment = some S → (s.stack p).length < 8 →
    (c.state = .bound → pushed none .valid .bound) ∧
    (∀ e, c.state = .exhausted e → pushed (some e) .valid (.exhausted e)) ∧
    (c.state = .revalidating → pushed none .stale .revalidating)

/-- POP of a VALID context: the cursor's own binding is released and its read cancelled, then the context is
restored, with k strides of advance resolution when k is above 0. -/
def Obligations.PopRestoresAValidContext : Prop :=
  ∀ (p : Port) (target : BitVec 4) (k : BitVec 8) (x : Context) (rest : List Context) (s : State),
    let id := cursorOf p target
    let c := s.cursor id
    s.Admits p false false → target.toNat < 8 → k.toNat < 16 → c.state.isMapping = false →
    s.stack p = x :: rest → x.mark = .valid →
    ∃ u v t, exec (.pop p target k) s = .next t ∧
      s.OnlyChanges u [.dt, .notices, .slots, .buffers, .fillList] ∧ s.Cancelled u id false ∧
      (∀ S, c.state = .bound ∨ (∃ e, c.state = .exhausted e) → c.segment = some S → s.Released u S) ∧
      (c.state = .closed ∨ (∃ r, c.state = .faulted r) → u.dt = s.dt ∧ u.notices = s.notices) ∧
      u.OnlyChanges v [.ctxStacks, .cursors] ∧ v.stack p = rest ∧ u.SameStacksBut v p ∧ u.SameCursorsBut v id ∧
      v.cursor id =
        { state := (match x.side with | none => .bound | some e => .exhausted e), segment := some x.segment,
          generation := x.generation, offset := x.offset, stride := x.stride, writeRight := x.writeRight } ∧
      v.Took t p (.done (t.cursor id).state.code false (auxField rest.length 1 false) [])
        [.cursors, .dt, .notices, .mapQueues, .freeCount] ∧
      (k = 0 → t.cursor id = v.cursor id ∧ v.OnlyChanges t [.links]) ∧
      (k ≠ 0 → v.Advanced t id x.segment k.toNat)

/-- POP of a STALE context makes the cursor REVALIDATING at offset plus k strides, queued; of a REVOKED one, FAULTED
with REVOKED, k not used. The cursor's own binding is released and its read cancelled first. -/
def Obligations.PopRestoresAMarkedContext : Prop :=
  ∀ (p : Port) (target : BitVec 4) (k : BitVec 8) (x : Context) (rest : List Context) (s : State),
    let id := cursorOf p target
    let c := s.cursor id
    let off : Int := x.offset.toInt + k.toNat * x.stride.toInt
    s.Admits p false false → target.toNat < 8 → k.toNat < 16 → c.state.isMapping = false →
    s.stack p = x :: rest → x.mark ≠ .valid →
    ∃ t, exec (.pop p target k) s = .next t ∧
      t.stack p = rest ∧ s.SameStacksBut t p ∧ s.SameCursorsBut t id ∧ s.Cancelled t id false ∧
      (∀ S, c.state = .bound ∨ (∃ e, c.state = .exhausted e) → c.segment = some S → s.Released t S) ∧
      (c.state = .closed ∨ (∃ r, c.state = .faulted r) → t.dt = s.dt ∧ t.notices = s.notices) ∧
      (x.mark = .stale →
        (∃ o, t.cursor id =
            { state := .revalidating, segment := some x.segment, generation := x.generation, offset := o,
              stride := x.stride, writeRight := x.writeRight } ∧
          (-2147483648 ≤ off → off ≤ 2147483647 → o = BitVec.ofInt 32 off)) ∧
        t.mapQueue p = s.mapQueue p ++ [id.cursor] ∧ s.SameMapQueuesBut t p ∧
        s.Took t p (.done .revalidating false (auxField rest.length 2 false) [])
          [.cursors, .dt, .notices, .mapQueues, .ctxStacks, .slots, .buffers, .fillList, .freeCount]) ∧
      (x.mark = .revoked →
        t.cursor id =
          { state := .faulted .revoked, segment := some x.segment, generation := x.generation, offset := x.offset,
            stride := x.stride, writeRight := false } ∧
        s.Took t p (.done (.faulted .revoked) false (auxField rest.length 3 false) [])
          [.cursors, .dt, .notices, .ctxStacks, .slots, .buffers, .fillList])

/-- DROP removes the top context, releasing the binding of a VALID or STALE one; with an empty stack it is refused
STACK_EMPTY. It is taken from a quarantined port. -/
def Obligations.DropRemovesTheTopContext : Prop :=
  ∀ (p : Port) (s : State), s.Admits p false true →
    (s.stack p = [] → exec (.drop p) s = .next (s.answer p (.refused .stackEmpty))) ∧
    ∀ x rest, s.stack p = x :: rest →
      ∃ t, exec (.drop p) s = .next t ∧
        s.Took t p (.done .noState false (auxField rest.length x.mark.code false) []) [.dt, .notices, .ctxStacks] ∧
        t.stack p = rest ∧ s.SameStacksBut t p ∧
        (x.mark ≠ .revoked → s.Released t x.segment) ∧
        (x.mark = .revoked → t.dt = s.dt ∧ t.notices = s.notices)

/-! ### Notices and ports -/

/-- FETCH_NOTICE removes the oldest notice and reports it with the overrun mark and the number left; the mark is then
clear. With none it reports NONE. Every kind has its code, and its record the fields and words of section 10.3, reserved
bits 0. -/
def Obligations.FetchTakesTheOldestNotice : Prop :=
  ∀ (p : Port) (s : State), s.requestReady p = true →
    (∀ n rest, (s.noticeQueue p).items = n :: rest →
      ∃ t, exec (.fetchNotice p) s = .next t ∧
        s.Took t p (.done (.notice n.kind) false (auxField rest.length 0 (s.noticeQueue p).overrun) n.words)
          [.notices] ∧
        t.noticeQueue p = ⟨rest, false⟩ ∧ s.SameNoticesBut t p) ∧
    ((s.noticeQueue p).items = [] →
      ∃ t, exec (.fetchNotice p) s = .next t ∧
        s.Took t p (.done (.notice .none) false (auxField 0 0 (s.noticeQueue p).overrun) []) [.notices] ∧
        t.noticeQueue p = ⟨[], false⟩ ∧ s.SameNoticesBut t p) ∧
  (StateCode.notice .none).code = (0x10, 0) ∧
  ∀ n : Notice,
    let code := (StateCode.notice n.kind).code
    match n with
    | .placementFailed c S r o => ∃ w, n.words = [w] ∧ code = (0x11, 0) ∧
      (w.extractLsb' 0 8).toNat = S.val ∧ (w.extractLsb' 8 4).toNat = c.val ∧
      (w.extractLsb' 12 3).toNat =
        (match r with
         | .generationMismatch => 1 | .notLive => 2 | .segmentRetiring => 3 | .noRight => 4 | .chainTooLong => 5
         | .revoked => 6) ∧
      w.getLsbD 15 = false ∧
      (w.extractLsb' 16 2).toNat = (match o with | .opened => 0 | .cross => 1 | .revalidate => 2) ∧
      w.extractLsb' 18 14 = 0
    | .revoked S k m => ∃ w, n.words = [w] ∧ code = (0x12, 0) ∧
      (w.extractLsb' 0 8).toNat = S.val ∧ w.extractLsb' 8 8 = 0 ∧ (k ≤ 8 → (w.extractLsb' 16 4).toNat = k) ∧
      w.extractLsb' 20 4 = 0 ∧ (m ≤ 8 → (w.extractLsb' 24 4).toNat = m) ∧ w.extractLsb' 28 4 = 0
    | .readDiscarded c S offset => ∃ w, n.words = [w, offset] ∧ code = (0x13, 0) ∧
      (w.extractLsb' 0 8).toNat = S.val ∧ (w.extractLsb' 8 4).toNat = c.val ∧ w.extractLsb' 12 20 = 0
    | .writeFailed c S offset z r => ∃ w, n.words = [w, offset] ∧ code = (0x14, 0) ∧
      (w.extractLsb' 0 8).toNat = S.val ∧ (w.extractLsb' 8 4).toNat = c.val ∧
      (w.extractLsb' 12 2).toNat = (match r with | .memoryError => 1 | .memoryTimeout => 2) ∧
      w.extractLsb' 14 2 = 0 ∧
      (w.extractLsb' 16 2).toNat = (match z with | .b1 => 0 | .b2 => 1 | .b4 => 2 | .b8 => 3) ∧
      w.extractLsb' 18 14 = 0
    | .retireComplete S how => ∃ w, n.words = [w] ∧ code = (0x15, 0) ∧
      (w.extractLsb' 0 8).toNat = S.val ∧ w.extractLsb' 8 8 = 0 ∧
      w.getLsbD 16 = (match how with | .graceful => false | .forced => true) ∧ w.extractLsb' 17 15 = 0
    | .portQuarantined q => ∃ w, n.words = [w] ∧ code = (0x16, 0) ∧
      (w.extractLsb' 0 2).toNat = q.val ∧ w.extractLsb' 2 30 = 0
    | .portReleased => n.words = [] ∧ code = (0x17, 0)

/-- An append joins the tail while fewer than 8 notices stand, and otherwise is dropped with the overrun mark set; the
attention line is asserted exactly while the queue is non-empty or the mark set. -/
def Obligations.AppendsKeepTheOldestEight : Prop :=
  ∀ (s : State) (p : Port) (n : Notice),
    ((s.noticeQueue p).items.length < 8 →
      (s.notify p n).noticeQueue p = ⟨(s.noticeQueue p).items ++ [n], (s.noticeQueue p).overrun⟩) ∧
    (8 ≤ (s.noticeQueue p).items.length → (s.notify p n).noticeQueue p = ⟨(s.noticeQueue p).items, true⟩) ∧
    s.SameNoticesBut (s.notify p n) p ∧ s.OnlyChanges (s.notify p n) [.notices] ∧
    (s.attention p = true ↔ (s.noticeQueue p).items ≠ [] ∨ (s.noticeQueue p).overrun = true)

/-- SET_PORT: LAST_AUTHORITY when it would demote the last TABLE port, nothing changed; otherwise each setting given
takes its value, status and tally stay, losing TABLE empties the staging record, and the port report is returned. A
QUARANTINED port of TABLE authority counts as another TABLE port, as R160 and R159 read (the model's choice against the
first bullet of R166, log entry 17). -/
def Obligations.SetPortChangesTheSettingsGiven : Prop :=
  ∀ (p : Port) (target : BitVec 4) (a pr : Option (BitVec 2)) (l : Option (BitVec 5)) (i : Option (BitVec 2))
    (s : State),
    let q := portNo target
    let r := s.port q
    let demotes : Prop := a = some 0 ∧ r.authority = .table
    let others : Prop := ∃ x, x ≠ q ∧ (s.port x).authority = .table
    s.Admits p true false → (Instr.setPort p target a pr l i).FieldsInRange →
    (demotes → ¬ others → exec (.setPort p target a pr l i) s = .next (s.answer p (.refused .lastAuthority))) ∧
    (¬ demotes ∨ others →
      ∃ t w, exec (.setPort p target a pr l i) s = .next t ∧
        (t.port q).authority = (match a with | some x => if x = 0 then .ordinary else .table | none => r.authority) ∧
        (t.port q).priority = (match pr with | some x => if x = 0 then .low else .high | none => r.priority) ∧
        (t.port q).limit = (match l with | some x => x.toNat | none => r.limit) ∧
        (t.port q).interval =
          (match i with
           | some x => if x = 0 then .p1024 else if x = 1 then .p16384 else .p262144
           | none => r.interval) ∧
        (t.port q).status = r.status ∧ (t.port q).tally = r.tally ∧
        (demotes → (t.port q).staging = Staging.empty) ∧ (¬ demotes → (t.port q).staging = r.staging) ∧
        s.SamePortsBut t q ∧ s.Took t p (.done r.status.code false 0 [w]) [.ports] ∧
        w.extractLsb' 0 2 = (t.port q).authority.code ∧ w.extractLsb' 2 2 = (t.port q).priority.code ∧
        w.extractLsb' 4 4 = 0 ∧ w.extractLsb' 13 3 = 0 ∧ w.extractLsb' 16 2 = (t.port q).interval.code ∧
        w.extractLsb' 18 2 = 0 ∧ w.getLsbD 20 = decide (r.status = .quarantined) ∧ w.extractLsb' 21 3 = 0 ∧
        w.extractLsb' 28 4 = 0 ∧
        ((t.port q).limit ≤ 15 → (w.extractLsb' 8 5).toNat = (t.port q).limit) ∧
        (r.tally ≤ 15 → (w.extractLsb' 24 4).toNat = r.tally))

/-- RELEASE_PORT: of an ACTIVE port nothing changes; a QUARANTINED one becomes ACTIVE with tally 0 and is told. The
DONE reports the status before. -/
def Obligations.ReleasePortEndsQuarantine : Prop :=
  ∀ (p : Port) (target : BitVec 4) (s : State),
    let q := portNo target
    s.Admits p true false → target.toNat < 4 →
    ((s.port q).status = .active → exec (.releasePort p target) s = .next (s.answer p (.done .active false 0 []))) ∧
    ((s.port q).status = .quarantined →
      ∃ t, exec (.releasePort p target) s = .next t ∧
        s.Took t p (.done .quarantined false 0 []) [.ports, .notices] ∧
        t.port q = { s.port q with status := .active, tally := 0 } ∧ s.SamePortsBut t q ∧
        t.noticeQueue q = (s.noticeQueue q).push .portReleased ∧ s.SameNoticesBut t q)

/-- RESET_PORT, of the issuer from any port or of another from an ACTIVE TABLE port: the notice queue emptied; cursors
CLOSED, those not CLOSED before taken out of the map queue and the fill request list, their reads cancelled; the stack
empty; every binding of the port released, cursors 0 to 7 and then the stack from the top down, each RETIRE_COMPLETE so
brought about appended to the recorded port's queue and no other notice anywhere; tally 0, ACTIVE, staging empty,
settings kept. A cursor CLOSED before keeps its slot and buffer; the other ports' cursors, slots, buffers, stacks, map
queues, records and places in the fill request list are as they were. -/
def Obligations.ResetPortClearsThePort : Prop :=
  ∀ (p : Port) (target : BitVec 4) (s : State),
    let q := portNo target
    s.requestReady p = true → target.toNat < 4 →
    q = p ∨ (s.port p).authority = .table ∧ (s.port p).status = .active →
    ∃ t, exec (.resetPort p target) s = .next t ∧
      s.Took t p (.done .active false 0 [])
        [.notices, .cursors, .mapQueues, .ctxStacks, .slots, .buffers, .fillList, .dt, .ports] ∧
      (∀ c, (t.cursor ⟨q, c⟩).state = .closed) ∧ (∀ id, id.port ≠ q → t.cursor id = s.cursor id) ∧
      (∀ id, id.port ≠ q → t.slot id = s.slot id ∧ t.buffer id = s.buffer id) ∧
      (∀ c, (s.cursor ⟨q, c⟩).state ≠ .closed →
        t.cursor ⟨q, c⟩ = Cursor.closed ∧ t.slot ⟨q, c⟩ = .empty ∧
        t.buffer ⟨q, c⟩ = (s.buffer ⟨q, c⟩).cancelled false) ∧
      (∀ c, (s.cursor ⟨q, c⟩).state = .closed →
        t.cursor ⟨q, c⟩ = s.cursor ⟨q, c⟩ ∧ t.slot ⟨q, c⟩ = s.slot ⟨q, c⟩ ∧ t.buffer ⟨q, c⟩ = s.buffer ⟨q, c⟩) ∧
      t.fillList =
        s.fillList.filter (fun id => !(decide (id.port = q) && decide ((s.cursor id).state ≠ .closed))) ∧
      t.mapQueue q = (s.mapQueue q).filter (fun c => decide ((s.cursor ⟨q, c⟩).state = .closed)) ∧
      (s.MapQueuesExact → t.mapQueue q = []) ∧
      s.SameMapQueuesBut t q ∧ (s.setNotices q ⟨[], false⟩).ReleasedAll t (s.portBindings q) ∧ t.stack q = [] ∧ s.SameStacksBut t q ∧
      t.port q = { s.port q with tally := 0, status := .active, staging := Staging.empty } ∧ s.SamePortsBut t q ∧
      (∀ S, let held := s.heldCursors q S + s.heldContexts q S
        ((s.desc S).state = .live ∨ (s.desc S).state = .retiring ∧ held < (s.desc S).bindCount →
          t.desc S = { s.desc S with bindCount := (s.desc S).bindCount - held }) ∧
        ((s.desc S).state = .retiring → 0 < held → held = (s.desc S).bindCount →
          t.desc S = { Descriptor.reset with generation := (s.desc S).generation + 1 })) ∧
      (∀ n ∈ (t.noticeQueue q).items, ∃ S, n = .retireComplete S .graceful)

/-- DEVICE_RESET: every block at its reset value, every port's authority by the straps, RP0 TABLE when none is
high. -/
def Obligations.DeviceResetRestoresEveryBlock : Prop :=
  ∀ (straps : BitVec 4) (s : State), ∃ t, exec (.deviceReset straps) s = .next t ∧
    (∀ S, t.desc S =
      { state := .free, generation := 0, base := 0, length := 0, link := none,
        rights := Vector.replicate 4 .none, depth := 0, keep := false, bindCount := 0, retiringPort := none }) ∧
    (∀ id, t.cursor id =
      { state := .closed, segment := none, generation := 0, offset := 0, stride := 0, writeRight := false }) ∧
    (∀ p, t.mapQueue p = []) ∧ t.markHigh = 3 ∧ t.markLow = 3 ∧ (∀ p, t.stack p = []) ∧
    (∀ id, t.buffer id = .empty ∧ t.slot id = .empty) ∧ t.fillList = [] ∧ t.postQueue = [] ∧
    (∀ n, t.tag n = .free) ∧ t.alternation = .fillNext ∧ t.memRequest = none ∧ t.respChannel = .idle ∧
    (∀ p, t.noticeQueue p = ⟨[], false⟩ ∧ t.attention p = false) ∧
    (∀ p, t.link p = ⟨none, [], []⟩ ∧ t.requestReady p = true) ∧
    (∀ p, (t.port p).priority = .low ∧ (t.port p).limit = 4 ∧ (t.port p).interval = .p16384 ∧
      (t.port p).status = .active ∧ (t.port p).tally = 0 ∧ (t.port p).staging = Staging.empty) ∧
    (∀ p, (t.port p).authority = .table ↔ straps.getLsbD p.val = true ∨ (straps = 0 ∧ p = 0))

/-! ### The Memory Port -/

/-- The candidate fill is the oldest in the list whose block no Post Queue entry overlaps; the candidate write is the
oldest QUEUED entry, held while an ISSUED one overlaps it. -/
def Obligations.CandidatesAreTheOldest : Prop :=
  ∀ s : State,
    let meets (e : PostEntry) (b : Word) (n : Nat) : Prop :=
      e.addr.toNat < b.toNat + n ∧ b.toNat < e.addr.toNat + e.size.bytes
    let eligible (id : CursorId) : Prop :=
      ∃ b n v, s.buffer id = .filling b n v .waiting ∧ ∀ e ∈ s.postQueue, ¬ meets e b n
    (∀ id, s.fillCandidate = some id ↔
      ∃ front rest, s.fillList = front ++ id :: rest ∧ eligible id ∧ ∀ x ∈ front, ¬ eligible x) ∧
    (∀ e, s.writeCandidate = some e ↔
      (∃ front rest, s.postQueue = front ++ e :: rest ∧ e.state = .queued ∧ ∀ x ∈ front, x.state ≠ .queued) ∧
      ∀ x ∈ s.postQueue, x.state ≠ .queued → ¬ meets x e.addr e.size.bytes)

/-- GRANT: the lowest FREE tag goes to the one candidate, or with both to the one the alternation mark names; the tag
is BUSY with its owner, count and timer, the request is transferred, and the mark then names the other source. A request
is sent on the lines of R144: kind 0 for a read and 1 for a write, tag, address, the byte count as its code, and the
bytes of a write. -/
def Obligations.GrantGivesTheLowestFreeTag : Prop :=
  ∀ (n : TagNo) (s : State), s.tag n = .free → (∀ m < n, s.tag m ≠ .free) →
    (∀ id b size v, s.fillCandidate = some id → s.buffer id = .filling b size v .waiting →
      s.writeCandidate = none ∨ s.alternation = .fillNext →
      ∃ t, exec (.grant true) s = .next t ∧
        s.OnlyChanges t [.tags, .buffers, .fillList, .alternation, .memRequest] ∧
        t.tag n = .busy (.fill id) size (.running 65536) ∧ s.SameTagsBut t n ∧
        t.buffer id = .filling b size false .inFlight ∧ s.SameBuffersBut t id ∧
        t.fillList = s.fillList.filter (fun x => decide (x ≠ id)) ∧ t.alternation = .writeNext ∧
        t.memRequest = some ⟨.read, n, b, size, none⟩) ∧
    (∀ e front rest, s.writeCandidate = some e → s.postQueue = front ++ e :: rest →
      (∀ x ∈ front, x.state ≠ .queued) → e.state = .queued → s.fillCandidate = none ∨ s.alternation = .writeNext →
      ∃ t, exec (.grant true) s = .next t ∧ s.OnlyChanges t [.tags, .postQueue, .alternation, .memRequest] ∧
        t.tag n = .busy .write e.size.bytes (.running 65536) ∧ s.SameTagsBut t n ∧
        t.postQueue = front ++ { e with state := .issued n } :: rest ∧ t.alternation = .fillNext ∧
        t.memRequest = some ⟨.write, n, e.addr, e.size.bytes, some (dataLines e.data)⟩) ∧
    ∀ r : MemRequest,
      r.lines.kind = (match r.kind with | .read => 0 | .write => 1) ∧ r.lines.tag.toNat = r.tag.val ∧
      r.lines.address = r.addr ∧ r.lines.data = r.data ∧
      ∀ code : Nat, code ≤ 6 → r.byteCount = 2 ^ code → r.lines.byteCount.toNat = code

/-- Where the conditions of an event fail nothing changes: no grant without a ready memory, a FREE tag and a
candidate; no expiry of a timer that does not run; no new first beat while a response is in progress (the model's
choice of a total answer, log entries 5, 7 and 14). -/
def Obligations.EventsWithoutCauseChangeNothing : Prop :=
  ∀ s : State,
    exec (.grant false) s = .next s ∧
    ((∀ n, s.tag n ≠ .free) → exec (.grant true) s = .next s) ∧
    (s.fillCandidate = none → s.writeCandidate = none → exec (.grant true) s = .next s) ∧
    (∀ n, (∀ o c k, s.tag n ≠ .busy o c (.running k)) → exec (.responseTimerExpiry n) s = .next s) ∧
    (∀ p c, (∀ z r i, s.slot ⟨p, c⟩ ≠ .ready z r i) → exec (.discardTimerExpiry p c) s = .next s) ∧
    (s.respChannel ≠ .idle → ∀ n e d, exec (.responseFirstBeat n e d) s = .next s)

/-- A first beat: on a BUSY tag it stops the response timer; on any other tag the response is taken there, an
ABANDONED tag becoming FREE, and its other beats are discarded. -/
def Obligations.FirstBeatStopsTheTimer : Prop :=
  ∀ (n : TagNo) (error : Bool) (data : Lines) (s : State), s.respChannel = .idle →
    (∀ o c k, s.tag n = .busy o c k → ∃ t, exec (.responseFirstBeat n error data) s = .next t ∧
      s.OnlyChanges t [.tags, .respChannel] ∧ t.tag n = .busy o c .stopped ∧ s.SameTagsBut t n ∧
      t.respChannel = .begun n error data) ∧
    (s.tag n = .abandoned → ∃ t, exec (.responseFirstBeat n error data) s = .next t ∧
      s.OnlyChanges t [.tags, .respChannel] ∧ t.tag n = .free ∧ s.SameTagsBut t n ∧ t.respChannel = .discarding) ∧
    (s.tag n = .free → ∃ t, exec (.responseFirstBeat n error data) s = .next t ∧
      s.OnlyChanges t [.respChannel] ∧ t.respChannel = .discarding)

/-- A response on a BUSY tag, taken at its last beat: the tag becomes FREE and the owner gets OK with the data, or
ERROR when the status says so or the number of beats is not the one called for (R146), whichever of the two rows the
response comes by (R151, the model's reading, log entry 9). A response whose first beat came before has that beat's tag,
status and data, whatever tag the command names; the command's own first beat is that one (the model's reading of R145,
log entry 7). -/
def Obligations.ResponseIsDeliveredToItsOwner : Prop :=
  ∀ (i : Instr) (m n : TagNo) (error : Bool) (beats : List Lines) (owner : TagOwner) (count : Nat)
    (timer : RespTimer) (s : State),
    let called : Nat := match owner with | .write => 1 | .fill _ => if count ≤ 8 then 1 else count / 8
    let result (e : Bool) (b : List Lines) : Delivery := if e = false ∧ b.length = called then .ok b else .error
    i = .memoryResponse m error beats ∨ i = .lateOrStrayResponse m error beats →
    s.tag n = .busy owner count timer →
    (m = n → s.respChannel = .idle → ∃ t, exec i s = .next t ∧
      s.OnlyChanges t [.tags, .buffers, .slots, .fillList, .postQueue, .notices] ∧
      t.tag n = .free ∧ s.SameTagsBut t n ∧ s.Delivered t n owner (result error beats)) ∧
    (∀ e first, s.respChannel = .begun n e first → ∃ t, exec i s = .next t ∧
      s.OnlyChanges t [.tags, .buffers, .slots, .fillList, .postQueue, .notices, .respChannel] ∧
      t.respChannel = .idle ∧
      t.tag n = .free ∧ s.SameTagsBut t n ∧ s.Delivered t n owner (result e (first :: beats.tail)))

/-- A late response frees its ABANDONED tag and delivers nothing, a stray one changes nothing (R148), whichever of the
two rows the response comes by (log entry 9). The end of a response that was taken at its first beat only ends it: the
response channel is idle, and nothing is delivered, whatever tag the command names (R145, log entry 7). -/
def Obligations.LateAndStrayResponsesDeliverNothing : Prop :=
  ∀ (i : Instr) (n : TagNo) (error : Bool) (beats : List Lines) (s : State),
    i = .lateOrStrayResponse n error beats ∨ i = .memoryResponse n error beats →
    (s.respChannel = .idle → s.tag n = .abandoned → ∃ t, exec i s = .next t ∧
      s.OnlyChanges t [.tags] ∧ t.tag n = .free ∧ s.SameTagsBut t n) ∧
    (s.respChannel = .idle → s.tag n = .free → exec i s = .next s) ∧
    (s.respChannel = .discarding → ∃ t, exec i s = .next t ∧ s.OnlyChanges t [.respChannel] ∧ t.respChannel = .idle)

/-- The expiry of a running response timer: the tag is ABANDONED and its owner gets a TIMEOUT. -/
def Obligations.ResponseTimeoutAbandonsTheTag : Prop :=
  ∀ (n : TagNo) (owner : TagOwner) (count periods : Nat) (s : State),
    s.tag n = .busy owner count (.running periods) →
    ∃ t, exec (.responseTimerExpiry n) s = .next t ∧
      s.OnlyChanges t [.tags, .buffers, .slots, .fillList, .postQueue, .notices] ∧
      t.tag n = .abandoned ∧ s.SameTagsBut t n ∧ s.Delivered t n owner .timeout

/-- The expiry of a discard timer: the slot empties, a VALID buffer stays only with keep on, READ_DISCARDED is
appended, the tally rises to 15 at most, and an ACTIVE port whose limit it reaches is QUARANTINED and told, with every
other TABLE port. -/
def Obligations.DiscardIsCountedAndMayQuarantine : Prop :=
  ∀ (p : Port) (c : CursorNo) (z : AccessSize) (r : ReadResult) (i : Interval) (S : Seg) (s : State),
    let id : CursorId := ⟨p, c⟩
    let tally := min ((s.port p).tally + 1) 15
    let onset : Prop := (s.port p).limit ≠ 0 ∧ (s.port p).status = .active ∧ (s.port p).limit ≤ tally
    let told := (s.noticeQueue p).push (.readDiscarded c S (s.cursor id).offset)
    s.slot id = .ready z r i → (s.cursor id).segment = some S →
    ∃ t, exec (.discardTimerExpiry p c) s = .next t ∧ s.OnlyChanges t [.slots, .buffers, .notices, .ports] ∧
      t.slot id = .empty ∧ s.SameSlotsBut t id ∧ s.SameBuffersBut t id ∧
      (∀ b n data, s.buffer id = .valid b n data →
        t.buffer id = if (s.desc S).keep then .valid b n data else .empty) ∧
      (s.buffer id = .empty → t.buffer id = .empty) ∧ s.SamePortsBut t p ∧
      (¬ onset → t.port p = { s.port p with tally := tally } ∧ t.noticeQueue p = told ∧ s.SameNoticesBut t p) ∧
      (onset → t.port p = { s.port p with tally := tally, status := .quarantined } ∧
        t.noticeQueue p = told.push (.portQuarantined p) ∧
        ∀ q, q ≠ p → t.noticeQueue q =
          if (s.port q).authority = .table then (s.noticeQueue q).push (.portQuarantined p) else s.noticeQueue q)

/-! ### What every step keeps -/

/-- At least one port holds TABLE authority; notice queues hold at most 8 notices, 8 while the overrun mark is set;
stacks hold at most 8 contexts; tallies and limits stay at most 15; requests wait only on a link that owes a
response. -/
def Obligations.StepKeepsAuthorityAndBounds : Prop :=
  ∀ s t : State, step s = .next t →
    (s.SomeTable → t.SomeTable) ∧ (s.NoticesBounded → t.NoticesBounded) ∧ (s.StacksBounded → t.StacksBounded) ∧
    (s.TalliesBounded → t.TalliesBounded) ∧ (s.WaitingOwed → t.WaitingOwed)

/-- Each map queue holds exactly its port's cursors in a mapping state, each once; only a CLOSED cursor has no segment,
and it holds the values of R33. -/
def Obligations.StepKeepsMapQueuesExact : Prop :=
  ∀ s t : State, s.SegmentsNamed → s.MapQueuesExact → step s = .next t → t.SegmentsNamed ∧ t.MapQueuesExact

/-- The fill request list holds exactly the cursors whose buffer is FILLING and WAITING, each once; a slot is WORKING
or READY only while its cursor is BOUND, slot and buffer are in a combination of R95, and no
VALID buffer overlaps a Post Queue entry. -/
def Obligations.StepKeepsTheReadPathCurrent : Prop :=
  (∀ s t : State, s.FillListExact → step s = .next t → t.FillListExact) ∧
  (∀ s t : State, s.SlotsOnBound → step s = .next t → t.SlotsOnBound) ∧
  (∀ s t : State, s.SlotsMatchBuffers → step s = .next t → t.SlotsMatchBuffers) ∧
  (∀ s t : State, s.SlotsMatchBuffers → s.BuffersCurrent → step s = .next t → t.BuffersCurrent)

/-- The Post Queue holds at most 16 entries, ISSUED before QUEUED, and no two ISSUED entries overlap. -/
def Obligations.StepKeepsThePostQueueOrdered : Prop :=
  (∀ s t : State, s.QueueOrdered → step s = .next t → t.QueueOrdered) ∧
  (∀ s t : State, s.IssuedDisjoint → step s = .next t → t.IssuedDisjoint)

/-- Each BUSY tag carries exactly one fill in flight or one ISSUED entry, each of these has exactly one BUSY tag, and
a stopped response timer goes with the response in progress. -/
def Obligations.StepKeepsTagsPaired : Prop :=
  (∀ s t : State, s.TagsPaired → step s = .next t → t.TagsPaired) ∧
  (∀ s t : State, s.StoppedInProgress → step s = .next t → t.StoppedInProgress)

/-- Bind counts are exact, descriptors are valid and live as R6 says, and every cursor and VALID context matches its
segment's record. -/
def Obligations.StepKeepsTheTableConsistent : Prop :=
  ∀ s t : State, s.TableConsistent → step s = .next t → t.TableConsistent

/-- The machine after device reset has every invariant (the straps all low are the model's choice, log entry 6). -/
def Obligations.ResetHasEveryInvariant : Prop :=
  State.reset.SomeTable ∧ State.reset.NoticesBounded ∧ State.reset.StacksBounded ∧ State.reset.TalliesBounded ∧
  State.reset.WaitingOwed ∧ State.reset.SegmentsNamed ∧ State.reset.MapQueuesExact ∧ State.reset.FillListExact ∧
  State.reset.SlotsOnBound ∧ State.reset.SlotsMatchBuffers ∧ State.reset.BuffersCurrent ∧
  State.reset.QueueOrdered ∧ State.reset.IssuedDisjoint ∧ State.reset.TagsPaired ∧ State.reset.StoppedInProgress ∧
  State.reset.TableConsistent
end

