-- ==== Sys2Proof/Laws/State.lean ====
section
/-! SUPPORT. Laws/State.lean: reading after writing, for each way one piece of state is written: one lemma for each
field and each accessor. -/

namespace Sys2Proof.Machine

@[simp] theorem fget_fset {α : Type} {n : Nat} (v : Vector α n) (i j : Fin n) (x : α) :
    fget (fset v i x) j = if j = i then x else fget v j := by
  unfold fget fset
  rw [Vector.getElem_set]
  simp [Fin.ext_iff, eq_comm]

@[simp] theorem fget_replicate {α : Type} {n : Nat} (i : Fin n) (x : α) : fget (Vector.replicate n x) i = x := by
  simp [fget]

@[simp] theorem fget_ofFn {α : Type} {n : Nat} (i : Fin n) (f : Fin n → α) : fget (Vector.ofFn f) i = f i := by
  simp [fget]

theorem vector_ext_fget {α : Type} {n : Nat} {v w : Vector α n} (h : ∀ i, fget v i = fget w i) : v = w := by
  apply Vector.ext
  intro i hi
  exact h ⟨i, hi⟩

@[simp] theorem fset_fget {α : Type} {n : Nat} (v : Vector α n) (i : Fin n) : fset v i (fget v i) = v :=
  vector_ext_fget (by intro j; rw [fget_fset]; split <;> simp_all)

@[simp] theorem Grid.get_set {α : Type} (g : Grid α) (i j : CursorId) (x : α) :
    (g.set i x).get j = if j = i then x else g.get j := by
  obtain ⟨p, c⟩ := i
  obtain ⟨q, d⟩ := j
  simp only [Grid.get, Grid.set, fget_fset, CursorId.mk.injEq]
  by_cases h : q = p
  · subst h; simp
  · simp [h]

@[simp] theorem Grid.get_fill {α : Type} (i : CursorId) (x : α) : (Grid.fill x).get i = x := by
  simp [Grid.get, Grid.fill]

@[simp] theorem Grid.get_tabulate {α : Type} (i : CursorId) (f : CursorId → α) : (Grid.tabulate f).get i = f i := by
  simp [Grid.get, Grid.tabulate]

theorem Grid.ext_get {α : Type} {g h : Grid α} (e : ∀ i, g.get i = h.get i) : g = h := by
  obtain ⟨v⟩ := g
  obtain ⟨w⟩ := h
  congr 1
  exact vector_ext_fget (fun p => vector_ext_fget (fun c => e ⟨p, c⟩))

section setDesc

variable (s : State) (S : Seg) (d : Descriptor)

@[simp] theorem State.setDesc_cursors : (s.setDesc S d).cursors = s.cursors := rfl
@[simp] theorem State.setDesc_mapQueues : (s.setDesc S d).mapQueues = s.mapQueues := rfl
@[simp] theorem State.setDesc_markHigh : (s.setDesc S d).markHigh = s.markHigh := rfl
@[simp] theorem State.setDesc_markLow : (s.setDesc S d).markLow = s.markLow := rfl
@[simp] theorem State.setDesc_ctxStacks : (s.setDesc S d).ctxStacks = s.ctxStacks := rfl
@[simp] theorem State.setDesc_buffers : (s.setDesc S d).buffers = s.buffers := rfl
@[simp] theorem State.setDesc_slots : (s.setDesc S d).slots = s.slots := rfl
@[simp] theorem State.setDesc_fillList : (s.setDesc S d).fillList = s.fillList := rfl
@[simp] theorem State.setDesc_postQueue : (s.setDesc S d).postQueue = s.postQueue := rfl
@[simp] theorem State.setDesc_tags : (s.setDesc S d).tags = s.tags := rfl
@[simp] theorem State.setDesc_alternation : (s.setDesc S d).alternation = s.alternation := rfl
@[simp] theorem State.setDesc_memRequest : (s.setDesc S d).memRequest = s.memRequest := rfl
@[simp] theorem State.setDesc_respChannel : (s.setDesc S d).respChannel = s.respChannel := rfl
@[simp] theorem State.setDesc_ports : (s.setDesc S d).ports = s.ports := rfl
@[simp] theorem State.setDesc_notices : (s.setDesc S d).notices = s.notices := rfl
@[simp] theorem State.setDesc_links : (s.setDesc S d).links = s.links := rfl
@[simp] theorem State.setDesc_freeCount : (s.setDesc S d).freeCount = s.freeCount := rfl
@[simp] theorem State.setDesc_pending : (s.setDesc S d).pending = s.pending := rfl
@[simp] theorem State.desc_setDesc (j : Seg) : (s.setDesc S d).desc j = if j = S then d else s.desc j := by
  simp [State.desc, State.setDesc]
@[simp] theorem State.cursor_setDesc (j : CursorId) : (s.setDesc S d).cursor j = s.cursor j := rfl
@[simp] theorem State.mapQueue_setDesc (j : Port) : (s.setDesc S d).mapQueue j = s.mapQueue j := rfl
@[simp] theorem State.stack_setDesc (j : Port) : (s.setDesc S d).stack j = s.stack j := rfl
@[simp] theorem State.buffer_setDesc (j : CursorId) : (s.setDesc S d).buffer j = s.buffer j := rfl
@[simp] theorem State.slot_setDesc (j : CursorId) : (s.setDesc S d).slot j = s.slot j := rfl
@[simp] theorem State.tag_setDesc (j : TagNo) : (s.setDesc S d).tag j = s.tag j := rfl
@[simp] theorem State.port_setDesc (j : Port) : (s.setDesc S d).port j = s.port j := rfl
@[simp] theorem State.noticeQueue_setDesc (j : Port) : (s.setDesc S d).noticeQueue j = s.noticeQueue j := rfl
@[simp] theorem State.link_setDesc (j : Port) : (s.setDesc S d).link j = s.link j := rfl

end setDesc

section setCursor

variable (s : State) (id : CursorId) (c : Cursor)

@[simp] theorem State.setCursor_dt : (s.setCursor id c).dt = s.dt := rfl
@[simp] theorem State.setCursor_mapQueues : (s.setCursor id c).mapQueues = s.mapQueues := rfl
@[simp] theorem State.setCursor_markHigh : (s.setCursor id c).markHigh = s.markHigh := rfl
@[simp] theorem State.setCursor_markLow : (s.setCursor id c).markLow = s.markLow := rfl
@[simp] theorem State.setCursor_ctxStacks : (s.setCursor id c).ctxStacks = s.ctxStacks := rfl
@[simp] theorem State.setCursor_buffers : (s.setCursor id c).buffers = s.buffers := rfl
@[simp] theorem State.setCursor_slots : (s.setCursor id c).slots = s.slots := rfl
@[simp] theorem State.setCursor_fillList : (s.setCursor id c).fillList = s.fillList := rfl
@[simp] theorem State.setCursor_postQueue : (s.setCursor id c).postQueue = s.postQueue := rfl
@[simp] theorem State.setCursor_tags : (s.setCursor id c).tags = s.tags := rfl
@[simp] theorem State.setCursor_alternation : (s.setCursor id c).alternation = s.alternation := rfl
@[simp] theorem State.setCursor_memRequest : (s.setCursor id c).memRequest = s.memRequest := rfl
@[simp] theorem State.setCursor_respChannel : (s.setCursor id c).respChannel = s.respChannel := rfl
@[simp] theorem State.setCursor_ports : (s.setCursor id c).ports = s.ports := rfl
@[simp] theorem State.setCursor_notices : (s.setCursor id c).notices = s.notices := rfl
@[simp] theorem State.setCursor_links : (s.setCursor id c).links = s.links := rfl
@[simp] theorem State.setCursor_freeCount : (s.setCursor id c).freeCount = s.freeCount := rfl
@[simp] theorem State.setCursor_pending : (s.setCursor id c).pending = s.pending := rfl
@[simp] theorem State.desc_setCursor (j : Seg) : (s.setCursor id c).desc j = s.desc j := rfl
@[simp] theorem State.cursor_setCursor (j : CursorId) : (s.setCursor id c).cursor j = if j = id then c else s.cursor j := by
  simp [State.cursor, State.setCursor]
@[simp] theorem State.mapQueue_setCursor (j : Port) : (s.setCursor id c).mapQueue j = s.mapQueue j := rfl
@[simp] theorem State.stack_setCursor (j : Port) : (s.setCursor id c).stack j = s.stack j := rfl
@[simp] theorem State.buffer_setCursor (j : CursorId) : (s.setCursor id c).buffer j = s.buffer j := rfl
@[simp] theorem State.slot_setCursor (j : CursorId) : (s.setCursor id c).slot j = s.slot j := rfl
@[simp] theorem State.tag_setCursor (j : TagNo) : (s.setCursor id c).tag j = s.tag j := rfl
@[simp] theorem State.port_setCursor (j : Port) : (s.setCursor id c).port j = s.port j := rfl
@[simp] theorem State.noticeQueue_setCursor (j : Port) : (s.setCursor id c).noticeQueue j = s.noticeQueue j := rfl
@[simp] theorem State.link_setCursor (j : Port) : (s.setCursor id c).link j = s.link j := rfl

end setCursor

section setMapQueue

variable (s : State) (p : Port) (q : List CursorNo)

@[simp] theorem State.setMapQueue_dt : (s.setMapQueue p q).dt = s.dt := rfl
@[simp] theorem State.setMapQueue_cursors : (s.setMapQueue p q).cursors = s.cursors := rfl
@[simp] theorem State.setMapQueue_markHigh : (s.setMapQueue p q).markHigh = s.markHigh := rfl
@[simp] theorem State.setMapQueue_markLow : (s.setMapQueue p q).markLow = s.markLow := rfl
@[simp] theorem State.setMapQueue_ctxStacks : (s.setMapQueue p q).ctxStacks = s.ctxStacks := rfl
@[simp] theorem State.setMapQueue_buffers : (s.setMapQueue p q).buffers = s.buffers := rfl
@[simp] theorem State.setMapQueue_slots : (s.setMapQueue p q).slots = s.slots := rfl
@[simp] theorem State.setMapQueue_fillList : (s.setMapQueue p q).fillList = s.fillList := rfl
@[simp] theorem State.setMapQueue_postQueue : (s.setMapQueue p q).postQueue = s.postQueue := rfl
@[simp] theorem State.setMapQueue_tags : (s.setMapQueue p q).tags = s.tags := rfl
@[simp] theorem State.setMapQueue_alternation : (s.setMapQueue p q).alternation = s.alternation := rfl
@[simp] theorem State.setMapQueue_memRequest : (s.setMapQueue p q).memRequest = s.memRequest := rfl
@[simp] theorem State.setMapQueue_respChannel : (s.setMapQueue p q).respChannel = s.respChannel := rfl
@[simp] theorem State.setMapQueue_ports : (s.setMapQueue p q).ports = s.ports := rfl
@[simp] theorem State.setMapQueue_notices : (s.setMapQueue p q).notices = s.notices := rfl
@[simp] theorem State.setMapQueue_links : (s.setMapQueue p q).links = s.links := rfl
@[simp] theorem State.setMapQueue_freeCount : (s.setMapQueue p q).freeCount = s.freeCount := rfl
@[simp] theorem State.setMapQueue_pending : (s.setMapQueue p q).pending = s.pending := rfl
@[simp] theorem State.desc_setMapQueue (j : Seg) : (s.setMapQueue p q).desc j = s.desc j := rfl
@[simp] theorem State.cursor_setMapQueue (j : CursorId) : (s.setMapQueue p q).cursor j = s.cursor j := rfl
@[simp] theorem State.mapQueue_setMapQueue (j : Port) : (s.setMapQueue p q).mapQueue j = if j = p then q else s.mapQueue j := by
  simp [State.mapQueue, State.setMapQueue]
@[simp] theorem State.stack_setMapQueue (j : Port) : (s.setMapQueue p q).stack j = s.stack j := rfl
@[simp] theorem State.buffer_setMapQueue (j : CursorId) : (s.setMapQueue p q).buffer j = s.buffer j := rfl
@[simp] theorem State.slot_setMapQueue (j : CursorId) : (s.setMapQueue p q).slot j = s.slot j := rfl
@[simp] theorem State.tag_setMapQueue (j : TagNo) : (s.setMapQueue p q).tag j = s.tag j := rfl
@[simp] theorem State.port_setMapQueue (j : Port) : (s.setMapQueue p q).port j = s.port j := rfl
@[simp] theorem State.noticeQueue_setMapQueue (j : Port) : (s.setMapQueue p q).noticeQueue j = s.noticeQueue j := rfl
@[simp] theorem State.link_setMapQueue (j : Port) : (s.setMapQueue p q).link j = s.link j := rfl

end setMapQueue

section setStack

variable (s : State) (p : Port) (st : List Context)

@[simp] theorem State.setStack_dt : (s.setStack p st).dt = s.dt := rfl
@[simp] theorem State.setStack_cursors : (s.setStack p st).cursors = s.cursors := rfl
@[simp] theorem State.setStack_mapQueues : (s.setStack p st).mapQueues = s.mapQueues := rfl
@[simp] theorem State.setStack_markHigh : (s.setStack p st).markHigh = s.markHigh := rfl
@[simp] theorem State.setStack_markLow : (s.setStack p st).markLow = s.markLow := rfl
@[simp] theorem State.setStack_buffers : (s.setStack p st).buffers = s.buffers := rfl
@[simp] theorem State.setStack_slots : (s.setStack p st).slots = s.slots := rfl
@[simp] theorem State.setStack_fillList : (s.setStack p st).fillList = s.fillList := rfl
@[simp] theorem State.setStack_postQueue : (s.setStack p st).postQueue = s.postQueue := rfl
@[simp] theorem State.setStack_tags : (s.setStack p st).tags = s.tags := rfl
@[simp] theorem State.setStack_alternation : (s.setStack p st).alternation = s.alternation := rfl
@[simp] theorem State.setStack_memRequest : (s.setStack p st).memRequest = s.memRequest := rfl
@[simp] theorem State.setStack_respChannel : (s.setStack p st).respChannel = s.respChannel := rfl
@[simp] theorem State.setStack_ports : (s.setStack p st).ports = s.ports := rfl
@[simp] theorem State.setStack_notices : (s.setStack p st).notices = s.notices := rfl
@[simp] theorem State.setStack_links : (s.setStack p st).links = s.links := rfl
@[simp] theorem State.setStack_freeCount : (s.setStack p st).freeCount = s.freeCount := rfl
@[simp] theorem State.setStack_pending : (s.setStack p st).pending = s.pending := rfl
@[simp] theorem State.desc_setStack (j : Seg) : (s.setStack p st).desc j = s.desc j := rfl
@[simp] theorem State.cursor_setStack (j : CursorId) : (s.setStack p st).cursor j = s.cursor j := rfl
@[simp] theorem State.mapQueue_setStack (j : Port) : (s.setStack p st).mapQueue j = s.mapQueue j := rfl
@[simp] theorem State.stack_setStack (j : Port) : (s.setStack p st).stack j = if j = p then st else s.stack j := by
  simp [State.stack, State.setStack]
@[simp] theorem State.buffer_setStack (j : CursorId) : (s.setStack p st).buffer j = s.buffer j := rfl
@[simp] theorem State.slot_setStack (j : CursorId) : (s.setStack p st).slot j = s.slot j := rfl
@[simp] theorem State.tag_setStack (j : TagNo) : (s.setStack p st).tag j = s.tag j := rfl
@[simp] theorem State.port_setStack (j : Port) : (s.setStack p st).port j = s.port j := rfl
@[simp] theorem State.noticeQueue_setStack (j : Port) : (s.setStack p st).noticeQueue j = s.noticeQueue j := rfl
@[simp] theorem State.link_setStack (j : Port) : (s.setStack p st).link j = s.link j := rfl

end setStack

section setBuffer

variable (s : State) (id : CursorId) (b : Buffer)

@[simp] theorem State.setBuffer_dt : (s.setBuffer id b).dt = s.dt := rfl
@[simp] theorem State.setBuffer_cursors : (s.setBuffer id b).cursors = s.cursors := rfl
@[simp] theorem State.setBuffer_mapQueues : (s.setBuffer id b).mapQueues = s.mapQueues := rfl
@[simp] theorem State.setBuffer_markHigh : (s.setBuffer id b).markHigh = s.markHigh := rfl
@[simp] theorem State.setBuffer_markLow : (s.setBuffer id b).markLow = s.markLow := rfl
@[simp] theorem State.setBuffer_ctxStacks : (s.setBuffer id b).ctxStacks = s.ctxStacks := rfl
@[simp] theorem State.setBuffer_slots : (s.setBuffer id b).slots = s.slots := rfl
@[simp] theorem State.setBuffer_fillList : (s.setBuffer id b).fillList = s.fillList := rfl
@[simp] theorem State.setBuffer_postQueue : (s.setBuffer id b).postQueue = s.postQueue := rfl
@[simp] theorem State.setBuffer_tags : (s.setBuffer id b).tags = s.tags := rfl
@[simp] theorem State.setBuffer_alternation : (s.setBuffer id b).alternation = s.alternation := rfl
@[simp] theorem State.setBuffer_memRequest : (s.setBuffer id b).memRequest = s.memRequest := rfl
@[simp] theorem State.setBuffer_respChannel : (s.setBuffer id b).respChannel = s.respChannel := rfl
@[simp] theorem State.setBuffer_ports : (s.setBuffer id b).ports = s.ports := rfl
@[simp] theorem State.setBuffer_notices : (s.setBuffer id b).notices = s.notices := rfl
@[simp] theorem State.setBuffer_links : (s.setBuffer id b).links = s.links := rfl
@[simp] theorem State.setBuffer_freeCount : (s.setBuffer id b).freeCount = s.freeCount := rfl
@[simp] theorem State.setBuffer_pending : (s.setBuffer id b).pending = s.pending := rfl
@[simp] theorem State.desc_setBuffer (j : Seg) : (s.setBuffer id b).desc j = s.desc j := rfl
@[simp] theorem State.cursor_setBuffer (j : CursorId) : (s.setBuffer id b).cursor j = s.cursor j := rfl
@[simp] theorem State.mapQueue_setBuffer (j : Port) : (s.setBuffer id b).mapQueue j = s.mapQueue j := rfl
@[simp] theorem State.stack_setBuffer (j : Port) : (s.setBuffer id b).stack j = s.stack j := rfl
@[simp] theorem State.buffer_setBuffer (j : CursorId) : (s.setBuffer id b).buffer j = if j = id then b else s.buffer j := by
  simp [State.buffer, State.setBuffer]
@[simp] theorem State.slot_setBuffer (j : CursorId) : (s.setBuffer id b).slot j = s.slot j := rfl
@[simp] theorem State.tag_setBuffer (j : TagNo) : (s.setBuffer id b).tag j = s.tag j := rfl
@[simp] theorem State.port_setBuffer (j : Port) : (s.setBuffer id b).port j = s.port j := rfl
@[simp] theorem State.noticeQueue_setBuffer (j : Port) : (s.setBuffer id b).noticeQueue j = s.noticeQueue j := rfl
@[simp] theorem State.link_setBuffer (j : Port) : (s.setBuffer id b).link j = s.link j := rfl

end setBuffer

section setSlot

variable (s : State) (id : CursorId) (x : Slot)

@[simp] theorem State.setSlot_dt : (s.setSlot id x).dt = s.dt := rfl
@[simp] theorem State.setSlot_cursors : (s.setSlot id x).cursors = s.cursors := rfl
@[simp] theorem State.setSlot_mapQueues : (s.setSlot id x).mapQueues = s.mapQueues := rfl
@[simp] theorem State.setSlot_markHigh : (s.setSlot id x).markHigh = s.markHigh := rfl
@[simp] theorem State.setSlot_markLow : (s.setSlot id x).markLow = s.markLow := rfl
@[simp] theorem State.setSlot_ctxStacks : (s.setSlot id x).ctxStacks = s.ctxStacks := rfl
@[simp] theorem State.setSlot_buffers : (s.setSlot id x).buffers = s.buffers := rfl
@[simp] theorem State.setSlot_fillList : (s.setSlot id x).fillList = s.fillList := rfl
@[simp] theorem State.setSlot_postQueue : (s.setSlot id x).postQueue = s.postQueue := rfl
@[simp] theorem State.setSlot_tags : (s.setSlot id x).tags = s.tags := rfl
@[simp] theorem State.setSlot_alternation : (s.setSlot id x).alternation = s.alternation := rfl
@[simp] theorem State.setSlot_memRequest : (s.setSlot id x).memRequest = s.memRequest := rfl
@[simp] theorem State.setSlot_respChannel : (s.setSlot id x).respChannel = s.respChannel := rfl
@[simp] theorem State.setSlot_ports : (s.setSlot id x).ports = s.ports := rfl
@[simp] theorem State.setSlot_notices : (s.setSlot id x).notices = s.notices := rfl
@[simp] theorem State.setSlot_links : (s.setSlot id x).links = s.links := rfl
@[simp] theorem State.setSlot_freeCount : (s.setSlot id x).freeCount = s.freeCount := rfl
@[simp] theorem State.setSlot_pending : (s.setSlot id x).pending = s.pending := rfl
@[simp] theorem State.desc_setSlot (j : Seg) : (s.setSlot id x).desc j = s.desc j := rfl
@[simp] theorem State.cursor_setSlot (j : CursorId) : (s.setSlot id x).cursor j = s.cursor j := rfl
@[simp] theorem State.mapQueue_setSlot (j : Port) : (s.setSlot id x).mapQueue j = s.mapQueue j := rfl
@[simp] theorem State.stack_setSlot (j : Port) : (s.setSlot id x).stack j = s.stack j := rfl
@[simp] theorem State.buffer_setSlot (j : CursorId) : (s.setSlot id x).buffer j = s.buffer j := rfl
@[simp] theorem State.slot_setSlot (j : CursorId) : (s.setSlot id x).slot j = if j = id then x else s.slot j := by
  simp [State.slot, State.setSlot]
@[simp] theorem State.tag_setSlot (j : TagNo) : (s.setSlot id x).tag j = s.tag j := rfl
@[simp] theorem State.port_setSlot (j : Port) : (s.setSlot id x).port j = s.port j := rfl
@[simp] theorem State.noticeQueue_setSlot (j : Port) : (s.setSlot id x).noticeQueue j = s.noticeQueue j := rfl
@[simp] theorem State.link_setSlot (j : Port) : (s.setSlot id x).link j = s.link j := rfl

end setSlot

section setTag

variable (s : State) (t : TagNo) (x : Tag)

@[simp] theorem State.setTag_dt : (s.setTag t x).dt = s.dt := rfl
@[simp] theorem State.setTag_cursors : (s.setTag t x).cursors = s.cursors := rfl
@[simp] theorem State.setTag_mapQueues : (s.setTag t x).mapQueues = s.mapQueues := rfl
@[simp] theorem State.setTag_markHigh : (s.setTag t x).markHigh = s.markHigh := rfl
@[simp] theorem State.setTag_markLow : (s.setTag t x).markLow = s.markLow := rfl
@[simp] theorem State.setTag_ctxStacks : (s.setTag t x).ctxStacks = s.ctxStacks := rfl
@[simp] theorem State.setTag_buffers : (s.setTag t x).buffers = s.buffers := rfl
@[simp] theorem State.setTag_slots : (s.setTag t x).slots = s.slots := rfl
@[simp] theorem State.setTag_fillList : (s.setTag t x).fillList = s.fillList := rfl
@[simp] theorem State.setTag_postQueue : (s.setTag t x).postQueue = s.postQueue := rfl
@[simp] theorem State.setTag_alternation : (s.setTag t x).alternation = s.alternation := rfl
@[simp] theorem State.setTag_memRequest : (s.setTag t x).memRequest = s.memRequest := rfl
@[simp] theorem State.setTag_respChannel : (s.setTag t x).respChannel = s.respChannel := rfl
@[simp] theorem State.setTag_ports : (s.setTag t x).ports = s.ports := rfl
@[simp] theorem State.setTag_notices : (s.setTag t x).notices = s.notices := rfl
@[simp] theorem State.setTag_links : (s.setTag t x).links = s.links := rfl
@[simp] theorem State.setTag_freeCount : (s.setTag t x).freeCount = s.freeCount := rfl
@[simp] theorem State.setTag_pending : (s.setTag t x).pending = s.pending := rfl
@[simp] theorem State.desc_setTag (j : Seg) : (s.setTag t x).desc j = s.desc j := rfl
@[simp] theorem State.cursor_setTag (j : CursorId) : (s.setTag t x).cursor j = s.cursor j := rfl
@[simp] theorem State.mapQueue_setTag (j : Port) : (s.setTag t x).mapQueue j = s.mapQueue j := rfl
@[simp] theorem State.stack_setTag (j : Port) : (s.setTag t x).stack j = s.stack j := rfl
@[simp] theorem State.buffer_setTag (j : CursorId) : (s.setTag t x).buffer j = s.buffer j := rfl
@[simp] theorem State.slot_setTag (j : CursorId) : (s.setTag t x).slot j = s.slot j := rfl
@[simp] theorem State.tag_setTag (j : TagNo) : (s.setTag t x).tag j = if j = t then x else s.tag j := by
  simp [State.tag, State.setTag]
@[simp] theorem State.port_setTag (j : Port) : (s.setTag t x).port j = s.port j := rfl
@[simp] theorem State.noticeQueue_setTag (j : Port) : (s.setTag t x).noticeQueue j = s.noticeQueue j := rfl
@[simp] theorem State.link_setTag (j : Port) : (s.setTag t x).link j = s.link j := rfl

end setTag

section setPort

variable (s : State) (p : Port) (r : PortRec)

@[simp] theorem State.setPort_dt : (s.setPort p r).dt = s.dt := rfl
@[simp] theorem State.setPort_cursors : (s.setPort p r).cursors = s.cursors := rfl
@[simp] theorem State.setPort_mapQueues : (s.setPort p r).mapQueues = s.mapQueues := rfl
@[simp] theorem State.setPort_markHigh : (s.setPort p r).markHigh = s.markHigh := rfl
@[simp] theorem State.setPort_markLow : (s.setPort p r).markLow = s.markLow := rfl
@[simp] theorem State.setPort_ctxStacks : (s.setPort p r).ctxStacks = s.ctxStacks := rfl
@[simp] theorem State.setPort_buffers : (s.setPort p r).buffers = s.buffers := rfl
@[simp] theorem State.setPort_slots : (s.setPort p r).slots = s.slots := rfl
@[simp] theorem State.setPort_fillList : (s.setPort p r).fillList = s.fillList := rfl
@[simp] theorem State.setPort_postQueue : (s.setPort p r).postQueue = s.postQueue := rfl
@[simp] theorem State.setPort_tags : (s.setPort p r).tags = s.tags := rfl
@[simp] theorem State.setPort_alternation : (s.setPort p r).alternation = s.alternation := rfl
@[simp] theorem State.setPort_memRequest : (s.setPort p r).memRequest = s.memRequest := rfl
@[simp] theorem State.setPort_respChannel : (s.setPort p r).respChannel = s.respChannel := rfl
@[simp] theorem State.setPort_notices : (s.setPort p r).notices = s.notices := rfl
@[simp] theorem State.setPort_links : (s.setPort p r).links = s.links := rfl
@[simp] theorem State.setPort_freeCount : (s.setPort p r).freeCount = s.freeCount := rfl
@[simp] theorem State.setPort_pending : (s.setPort p r).pending = s.pending := rfl
@[simp] theorem State.desc_setPort (j : Seg) : (s.setPort p r).desc j = s.desc j := rfl
@[simp] theorem State.cursor_setPort (j : CursorId) : (s.setPort p r).cursor j = s.cursor j := rfl
@[simp] theorem State.mapQueue_setPort (j : Port) : (s.setPort p r).mapQueue j = s.mapQueue j := rfl
@[simp] theorem State.stack_setPort (j : Port) : (s.setPort p r).stack j = s.stack j := rfl
@[simp] theorem State.buffer_setPort (j : CursorId) : (s.setPort p r).buffer j = s.buffer j := rfl
@[simp] theorem State.slot_setPort (j : CursorId) : (s.setPort p r).slot j = s.slot j := rfl
@[simp] theorem State.tag_setPort (j : TagNo) : (s.setPort p r).tag j = s.tag j := rfl
@[simp] theorem State.port_setPort (j : Port) : (s.setPort p r).port j = if j = p then r else s.port j := by
  simp [State.port, State.setPort]
@[simp] theorem State.noticeQueue_setPort (j : Port) : (s.setPort p r).noticeQueue j = s.noticeQueue j := rfl
@[simp] theorem State.link_setPort (j : Port) : (s.setPort p r).link j = s.link j := rfl

end setPort

section setNotices

variable (s : State) (p : Port) (q : NoticeQueue)

@[simp] theorem State.setNotices_dt : (s.setNotices p q).dt = s.dt := rfl
@[simp] theorem State.setNotices_cursors : (s.setNotices p q).cursors = s.cursors := rfl
@[simp] theorem State.setNotices_mapQueues : (s.setNotices p q).mapQueues = s.mapQueues := rfl
@[simp] theorem State.setNotices_markHigh : (s.setNotices p q).markHigh = s.markHigh := rfl
@[simp] theorem State.setNotices_markLow : (s.setNotices p q).markLow = s.markLow := rfl
@[simp] theorem State.setNotices_ctxStacks : (s.setNotices p q).ctxStacks = s.ctxStacks := rfl
@[simp] theorem State.setNotices_buffers : (s.setNotices p q).buffers = s.buffers := rfl
@[simp] theorem State.setNotices_slots : (s.setNotices p q).slots = s.slots := rfl
@[simp] theorem State.setNotices_fillList : (s.setNotices p q).fillList = s.fillList := rfl
@[simp] theorem State.setNotices_postQueue : (s.setNotices p q).postQueue = s.postQueue := rfl
@[simp] theorem State.setNotices_tags : (s.setNotices p q).tags = s.tags := rfl
@[simp] theorem State.setNotices_alternation : (s.setNotices p q).alternation = s.alternation := rfl
@[simp] theorem State.setNotices_memRequest : (s.setNotices p q).memRequest = s.memRequest := rfl
@[simp] theorem State.setNotices_respChannel : (s.setNotices p q).respChannel = s.respChannel := rfl
@[simp] theorem State.setNotices_ports : (s.setNotices p q).ports = s.ports := rfl
@[simp] theorem State.setNotices_links : (s.setNotices p q).links = s.links := rfl
@[simp] theorem State.setNotices_freeCount : (s.setNotices p q).freeCount = s.freeCount := rfl
@[simp] theorem State.setNotices_pending : (s.setNotices p q).pending = s.pending := rfl
@[simp] theorem State.desc_setNotices (j : Seg) : (s.setNotices p q).desc j = s.desc j := rfl
@[simp] theorem State.cursor_setNotices (j : CursorId) : (s.setNotices p q).cursor j = s.cursor j := rfl
@[simp] theorem State.mapQueue_setNotices (j : Port) : (s.setNotices p q).mapQueue j = s.mapQueue j := rfl
@[simp] theorem State.stack_setNotices (j : Port) : (s.setNotices p q).stack j = s.stack j := rfl
@[simp] theorem State.buffer_setNotices (j : CursorId) : (s.setNotices p q).buffer j = s.buffer j := rfl
@[simp] theorem State.slot_setNotices (j : CursorId) : (s.setNotices p q).slot j = s.slot j := rfl
@[simp] theorem State.tag_setNotices (j : TagNo) : (s.setNotices p q).tag j = s.tag j := rfl
@[simp] theorem State.port_setNotices (j : Port) : (s.setNotices p q).port j = s.port j := rfl
@[simp] theorem State.noticeQueue_setNotices (j : Port) : (s.setNotices p q).noticeQueue j = if j = p then q else s.noticeQueue j := by
  simp [State.noticeQueue, State.setNotices]
@[simp] theorem State.link_setNotices (j : Port) : (s.setNotices p q).link j = s.link j := rfl

end setNotices

section setLink

variable (s : State) (p : Port) (l : Link)

@[simp] theorem State.setLink_dt : (s.setLink p l).dt = s.dt := rfl
@[simp] theorem State.setLink_cursors : (s.setLink p l).cursors = s.cursors := rfl
@[simp] theorem State.setLink_mapQueues : (s.setLink p l).mapQueues = s.mapQueues := rfl
@[simp] theorem State.setLink_markHigh : (s.setLink p l).markHigh = s.markHigh := rfl
@[simp] theorem State.setLink_markLow : (s.setLink p l).markLow = s.markLow := rfl
@[simp] theorem State.setLink_ctxStacks : (s.setLink p l).ctxStacks = s.ctxStacks := rfl
@[simp] theorem State.setLink_buffers : (s.setLink p l).buffers = s.buffers := rfl
@[simp] theorem State.setLink_slots : (s.setLink p l).slots = s.slots := rfl
@[simp] theorem State.setLink_fillList : (s.setLink p l).fillList = s.fillList := rfl
@[simp] theorem State.setLink_postQueue : (s.setLink p l).postQueue = s.postQueue := rfl
@[simp] theorem State.setLink_tags : (s.setLink p l).tags = s.tags := rfl
@[simp] theorem State.setLink_alternation : (s.setLink p l).alternation = s.alternation := rfl
@[simp] theorem State.setLink_memRequest : (s.setLink p l).memRequest = s.memRequest := rfl
@[simp] theorem State.setLink_respChannel : (s.setLink p l).respChannel = s.respChannel := rfl
@[simp] theorem State.setLink_ports : (s.setLink p l).ports = s.ports := rfl
@[simp] theorem State.setLink_notices : (s.setLink p l).notices = s.notices := rfl
@[simp] theorem State.setLink_freeCount : (s.setLink p l).freeCount = s.freeCount := rfl
@[simp] theorem State.setLink_pending : (s.setLink p l).pending = s.pending := rfl
@[simp] theorem State.desc_setLink (j : Seg) : (s.setLink p l).desc j = s.desc j := rfl
@[simp] theorem State.cursor_setLink (j : CursorId) : (s.setLink p l).cursor j = s.cursor j := rfl
@[simp] theorem State.mapQueue_setLink (j : Port) : (s.setLink p l).mapQueue j = s.mapQueue j := rfl
@[simp] theorem State.stack_setLink (j : Port) : (s.setLink p l).stack j = s.stack j := rfl
@[simp] theorem State.buffer_setLink (j : CursorId) : (s.setLink p l).buffer j = s.buffer j := rfl
@[simp] theorem State.slot_setLink (j : CursorId) : (s.setLink p l).slot j = s.slot j := rfl
@[simp] theorem State.tag_setLink (j : TagNo) : (s.setLink p l).tag j = s.tag j := rfl
@[simp] theorem State.port_setLink (j : Port) : (s.setLink p l).port j = s.port j := rfl
@[simp] theorem State.noticeQueue_setLink (j : Port) : (s.setLink p l).noticeQueue j = s.noticeQueue j := rfl
@[simp] theorem State.link_setLink (j : Port) : (s.setLink p l).link j = if j = p then l else s.link j := by
  simp [State.link, State.setLink]

end setLink

section setBuffers

variable (s : State) (g : Grid Buffer)

@[simp] theorem State.setBuffers_dt : (s.setBuffers g).dt = s.dt := rfl
@[simp] theorem State.setBuffers_cursors : (s.setBuffers g).cursors = s.cursors := rfl
@[simp] theorem State.setBuffers_mapQueues : (s.setBuffers g).mapQueues = s.mapQueues := rfl
@[simp] theorem State.setBuffers_markHigh : (s.setBuffers g).markHigh = s.markHigh := rfl
@[simp] theorem State.setBuffers_markLow : (s.setBuffers g).markLow = s.markLow := rfl
@[simp] theorem State.setBuffers_ctxStacks : (s.setBuffers g).ctxStacks = s.ctxStacks := rfl
@[simp] theorem State.setBuffers_buffers : (s.setBuffers g).buffers = g := rfl
@[simp] theorem State.setBuffers_slots : (s.setBuffers g).slots = s.slots := rfl
@[simp] theorem State.setBuffers_fillList : (s.setBuffers g).fillList = s.fillList := rfl
@[simp] theorem State.setBuffers_postQueue : (s.setBuffers g).postQueue = s.postQueue := rfl
@[simp] theorem State.setBuffers_tags : (s.setBuffers g).tags = s.tags := rfl
@[simp] theorem State.setBuffers_alternation : (s.setBuffers g).alternation = s.alternation := rfl
@[simp] theorem State.setBuffers_memRequest : (s.setBuffers g).memRequest = s.memRequest := rfl
@[simp] theorem State.setBuffers_respChannel : (s.setBuffers g).respChannel = s.respChannel := rfl
@[simp] theorem State.setBuffers_ports : (s.setBuffers g).ports = s.ports := rfl
@[simp] theorem State.setBuffers_notices : (s.setBuffers g).notices = s.notices := rfl
@[simp] theorem State.setBuffers_links : (s.setBuffers g).links = s.links := rfl
@[simp] theorem State.setBuffers_freeCount : (s.setBuffers g).freeCount = s.freeCount := rfl
@[simp] theorem State.setBuffers_pending : (s.setBuffers g).pending = s.pending := rfl
@[simp] theorem State.desc_setBuffers (j : Seg) : (s.setBuffers g).desc j = s.desc j := rfl
@[simp] theorem State.cursor_setBuffers (j : CursorId) : (s.setBuffers g).cursor j = s.cursor j := rfl
@[simp] theorem State.mapQueue_setBuffers (j : Port) : (s.setBuffers g).mapQueue j = s.mapQueue j := rfl
@[simp] theorem State.stack_setBuffers (j : Port) : (s.setBuffers g).stack j = s.stack j := rfl
@[simp] theorem State.buffer_setBuffers (j : CursorId) : (s.setBuffers g).buffer j = g.get j := rfl
@[simp] theorem State.slot_setBuffers (j : CursorId) : (s.setBuffers g).slot j = s.slot j := rfl
@[simp] theorem State.tag_setBuffers (j : TagNo) : (s.setBuffers g).tag j = s.tag j := rfl
@[simp] theorem State.port_setBuffers (j : Port) : (s.setBuffers g).port j = s.port j := rfl
@[simp] theorem State.noticeQueue_setBuffers (j : Port) : (s.setBuffers g).noticeQueue j = s.noticeQueue j := rfl
@[simp] theorem State.link_setBuffers (j : Port) : (s.setBuffers g).link j = s.link j := rfl

end setBuffers

section setFillList

variable (s : State) (l : List CursorId)

@[simp] theorem State.setFillList_dt : (s.setFillList l).dt = s.dt := rfl
@[simp] theorem State.setFillList_cursors : (s.setFillList l).cursors = s.cursors := rfl
@[simp] theorem State.setFillList_mapQueues : (s.setFillList l).mapQueues = s.mapQueues := rfl
@[simp] theorem State.setFillList_markHigh : (s.setFillList l).markHigh = s.markHigh := rfl
@[simp] theorem State.setFillList_markLow : (s.setFillList l).markLow = s.markLow := rfl
@[simp] theorem State.setFillList_ctxStacks : (s.setFillList l).ctxStacks = s.ctxStacks := rfl
@[simp] theorem State.setFillList_buffers : (s.setFillList l).buffers = s.buffers := rfl
@[simp] theorem State.setFillList_slots : (s.setFillList l).slots = s.slots := rfl
@[simp] theorem State.setFillList_fillList : (s.setFillList l).fillList = l := rfl
@[simp] theorem State.setFillList_postQueue : (s.setFillList l).postQueue = s.postQueue := rfl
@[simp] theorem State.setFillList_tags : (s.setFillList l).tags = s.tags := rfl
@[simp] theorem State.setFillList_alternation : (s.setFillList l).alternation = s.alternation := rfl
@[simp] theorem State.setFillList_memRequest : (s.setFillList l).memRequest = s.memRequest := rfl
@[simp] theorem State.setFillList_respChannel : (s.setFillList l).respChannel = s.respChannel := rfl
@[simp] theorem State.setFillList_ports : (s.setFillList l).ports = s.ports := rfl
@[simp] theorem State.setFillList_notices : (s.setFillList l).notices = s.notices := rfl
@[simp] theorem State.setFillList_links : (s.setFillList l).links = s.links := rfl
@[simp] theorem State.setFillList_freeCount : (s.setFillList l).freeCount = s.freeCount := rfl
@[simp] theorem State.setFillList_pending : (s.setFillList l).pending = s.pending := rfl
@[simp] theorem State.desc_setFillList (j : Seg) : (s.setFillList l).desc j = s.desc j := rfl
@[simp] theorem State.cursor_setFillList (j : CursorId) : (s.setFillList l).cursor j = s.cursor j := rfl
@[simp] theorem State.mapQueue_setFillList (j : Port) : (s.setFillList l).mapQueue j = s.mapQueue j := rfl
@[simp] theorem State.stack_setFillList (j : Port) : (s.setFillList l).stack j = s.stack j := rfl
@[simp] theorem State.buffer_setFillList (j : CursorId) : (s.setFillList l).buffer j = s.buffer j := rfl
@[simp] theorem State.slot_setFillList (j : CursorId) : (s.setFillList l).slot j = s.slot j := rfl
@[simp] theorem State.tag_setFillList (j : TagNo) : (s.setFillList l).tag j = s.tag j := rfl
@[simp] theorem State.port_setFillList (j : Port) : (s.setFillList l).port j = s.port j := rfl
@[simp] theorem State.noticeQueue_setFillList (j : Port) : (s.setFillList l).noticeQueue j = s.noticeQueue j := rfl
@[simp] theorem State.link_setFillList (j : Port) : (s.setFillList l).link j = s.link j := rfl

end setFillList

section setPostQueue

variable (s : State) (q : List PostEntry)

@[simp] theorem State.setPostQueue_dt : (s.setPostQueue q).dt = s.dt := rfl
@[simp] theorem State.setPostQueue_cursors : (s.setPostQueue q).cursors = s.cursors := rfl
@[simp] theorem State.setPostQueue_mapQueues : (s.setPostQueue q).mapQueues = s.mapQueues := rfl
@[simp] theorem State.setPostQueue_markHigh : (s.setPostQueue q).markHigh = s.markHigh := rfl
@[simp] theorem State.setPostQueue_markLow : (s.setPostQueue q).markLow = s.markLow := rfl
@[simp] theorem State.setPostQueue_ctxStacks : (s.setPostQueue q).ctxStacks = s.ctxStacks := rfl
@[simp] theorem State.setPostQueue_buffers : (s.setPostQueue q).buffers = s.buffers := rfl
@[simp] theorem State.setPostQueue_slots : (s.setPostQueue q).slots = s.slots := rfl
@[simp] theorem State.setPostQueue_fillList : (s.setPostQueue q).fillList = s.fillList := rfl
@[simp] theorem State.setPostQueue_postQueue : (s.setPostQueue q).postQueue = q := rfl
@[simp] theorem State.setPostQueue_tags : (s.setPostQueue q).tags = s.tags := rfl
@[simp] theorem State.setPostQueue_alternation : (s.setPostQueue q).alternation = s.alternation := rfl
@[simp] theorem State.setPostQueue_memRequest : (s.setPostQueue q).memRequest = s.memRequest := rfl
@[simp] theorem State.setPostQueue_respChannel : (s.setPostQueue q).respChannel = s.respChannel := rfl
@[simp] theorem State.setPostQueue_ports : (s.setPostQueue q).ports = s.ports := rfl
@[simp] theorem State.setPostQueue_notices : (s.setPostQueue q).notices = s.notices := rfl
@[simp] theorem State.setPostQueue_links : (s.setPostQueue q).links = s.links := rfl
@[simp] theorem State.setPostQueue_freeCount : (s.setPostQueue q).freeCount = s.freeCount := rfl
@[simp] theorem State.setPostQueue_pending : (s.setPostQueue q).pending = s.pending := rfl
@[simp] theorem State.desc_setPostQueue (j : Seg) : (s.setPostQueue q).desc j = s.desc j := rfl
@[simp] theorem State.cursor_setPostQueue (j : CursorId) : (s.setPostQueue q).cursor j = s.cursor j := rfl
@[simp] theorem State.mapQueue_setPostQueue (j : Port) : (s.setPostQueue q).mapQueue j = s.mapQueue j := rfl
@[simp] theorem State.stack_setPostQueue (j : Port) : (s.setPostQueue q).stack j = s.stack j := rfl
@[simp] theorem State.buffer_setPostQueue (j : CursorId) : (s.setPostQueue q).buffer j = s.buffer j := rfl
@[simp] theorem State.slot_setPostQueue (j : CursorId) : (s.setPostQueue q).slot j = s.slot j := rfl
@[simp] theorem State.tag_setPostQueue (j : TagNo) : (s.setPostQueue q).tag j = s.tag j := rfl
@[simp] theorem State.port_setPostQueue (j : Port) : (s.setPostQueue q).port j = s.port j := rfl
@[simp] theorem State.noticeQueue_setPostQueue (j : Port) : (s.setPostQueue q).noticeQueue j = s.noticeQueue j := rfl
@[simp] theorem State.link_setPostQueue (j : Port) : (s.setPostQueue q).link j = s.link j := rfl

end setPostQueue

section setAlternation

variable (s : State) (a : Alternation)

@[simp] theorem State.setAlternation_dt : (s.setAlternation a).dt = s.dt := rfl
@[simp] theorem State.setAlternation_cursors : (s.setAlternation a).cursors = s.cursors := rfl
@[simp] theorem State.setAlternation_mapQueues : (s.setAlternation a).mapQueues = s.mapQueues := rfl
@[simp] theorem State.setAlternation_markHigh : (s.setAlternation a).markHigh = s.markHigh := rfl
@[simp] theorem State.setAlternation_markLow : (s.setAlternation a).markLow = s.markLow := rfl
@[simp] theorem State.setAlternation_ctxStacks : (s.setAlternation a).ctxStacks = s.ctxStacks := rfl
@[simp] theorem State.setAlternation_buffers : (s.setAlternation a).buffers = s.buffers := rfl
@[simp] theorem State.setAlternation_slots : (s.setAlternation a).slots = s.slots := rfl
@[simp] theorem State.setAlternation_fillList : (s.setAlternation a).fillList = s.fillList := rfl
@[simp] theorem State.setAlternation_postQueue : (s.setAlternation a).postQueue = s.postQueue := rfl
@[simp] theorem State.setAlternation_tags : (s.setAlternation a).tags = s.tags := rfl
@[simp] theorem State.setAlternation_alternation : (s.setAlternation a).alternation = a := rfl
@[simp] theorem State.setAlternation_memRequest : (s.setAlternation a).memRequest = s.memRequest := rfl
@[simp] theorem State.setAlternation_respChannel : (s.setAlternation a).respChannel = s.respChannel := rfl
@[simp] theorem State.setAlternation_ports : (s.setAlternation a).ports = s.ports := rfl
@[simp] theorem State.setAlternation_notices : (s.setAlternation a).notices = s.notices := rfl
@[simp] theorem State.setAlternation_links : (s.setAlternation a).links = s.links := rfl
@[simp] theorem State.setAlternation_freeCount : (s.setAlternation a).freeCount = s.freeCount := rfl
@[simp] theorem State.setAlternation_pending : (s.setAlternation a).pending = s.pending := rfl
@[simp] theorem State.desc_setAlternation (j : Seg) : (s.setAlternation a).desc j = s.desc j := rfl
@[simp] theorem State.cursor_setAlternation (j : CursorId) : (s.setAlternation a).cursor j = s.cursor j := rfl
@[simp] theorem State.mapQueue_setAlternation (j : Port) : (s.setAlternation a).mapQueue j = s.mapQueue j := rfl
@[simp] theorem State.stack_setAlternation (j : Port) : (s.setAlternation a).stack j = s.stack j := rfl
@[simp] theorem State.buffer_setAlternation (j : CursorId) : (s.setAlternation a).buffer j = s.buffer j := rfl
@[simp] theorem State.slot_setAlternation (j : CursorId) : (s.setAlternation a).slot j = s.slot j := rfl
@[simp] theorem State.tag_setAlternation (j : TagNo) : (s.setAlternation a).tag j = s.tag j := rfl
@[simp] theorem State.port_setAlternation (j : Port) : (s.setAlternation a).port j = s.port j := rfl
@[simp] theorem State.noticeQueue_setAlternation (j : Port) : (s.setAlternation a).noticeQueue j = s.noticeQueue j := rfl
@[simp] theorem State.link_setAlternation (j : Port) : (s.setAlternation a).link j = s.link j := rfl

end setAlternation

section setMemRequest

variable (s : State) (r : Option MemRequest)

@[simp] theorem State.setMemRequest_dt : (s.setMemRequest r).dt = s.dt := rfl
@[simp] theorem State.setMemRequest_cursors : (s.setMemRequest r).cursors = s.cursors := rfl
@[simp] theorem State.setMemRequest_mapQueues : (s.setMemRequest r).mapQueues = s.mapQueues := rfl
@[simp] theorem State.setMemRequest_markHigh : (s.setMemRequest r).markHigh = s.markHigh := rfl
@[simp] theorem State.setMemRequest_markLow : (s.setMemRequest r).markLow = s.markLow := rfl
@[simp] theorem State.setMemRequest_ctxStacks : (s.setMemRequest r).ctxStacks = s.ctxStacks := rfl
@[simp] theorem State.setMemRequest_buffers : (s.setMemRequest r).buffers = s.buffers := rfl
@[simp] theorem State.setMemRequest_slots : (s.setMemRequest r).slots = s.slots := rfl
@[simp] theorem State.setMemRequest_fillList : (s.setMemRequest r).fillList = s.fillList := rfl
@[simp] theorem State.setMemRequest_postQueue : (s.setMemRequest r).postQueue = s.postQueue := rfl
@[simp] theorem State.setMemRequest_tags : (s.setMemRequest r).tags = s.tags := rfl
@[simp] theorem State.setMemRequest_alternation : (s.setMemRequest r).alternation = s.alternation := rfl
@[simp] theorem State.setMemRequest_memRequest : (s.setMemRequest r).memRequest = r := rfl
@[simp] theorem State.setMemRequest_respChannel : (s.setMemRequest r).respChannel = s.respChannel := rfl
@[simp] theorem State.setMemRequest_ports : (s.setMemRequest r).ports = s.ports := rfl
@[simp] theorem State.setMemRequest_notices : (s.setMemRequest r).notices = s.notices := rfl
@[simp] theorem State.setMemRequest_links : (s.setMemRequest r).links = s.links := rfl
@[simp] theorem State.setMemRequest_freeCount : (s.setMemRequest r).freeCount = s.freeCount := rfl
@[simp] theorem State.setMemRequest_pending : (s.setMemRequest r).pending = s.pending := rfl
@[simp] theorem State.desc_setMemRequest (j : Seg) : (s.setMemRequest r).desc j = s.desc j := rfl
@[simp] theorem State.cursor_setMemRequest (j : CursorId) : (s.setMemRequest r).cursor j = s.cursor j := rfl
@[simp] theorem State.mapQueue_setMemRequest (j : Port) : (s.setMemRequest r).mapQueue j = s.mapQueue j := rfl
@[simp] theorem State.stack_setMemRequest (j : Port) : (s.setMemRequest r).stack j = s.stack j := rfl
@[simp] theorem State.buffer_setMemRequest (j : CursorId) : (s.setMemRequest r).buffer j = s.buffer j := rfl
@[simp] theorem State.slot_setMemRequest (j : CursorId) : (s.setMemRequest r).slot j = s.slot j := rfl
@[simp] theorem State.tag_setMemRequest (j : TagNo) : (s.setMemRequest r).tag j = s.tag j := rfl
@[simp] theorem State.port_setMemRequest (j : Port) : (s.setMemRequest r).port j = s.port j := rfl
@[simp] theorem State.noticeQueue_setMemRequest (j : Port) : (s.setMemRequest r).noticeQueue j = s.noticeQueue j := rfl
@[simp] theorem State.link_setMemRequest (j : Port) : (s.setMemRequest r).link j = s.link j := rfl

end setMemRequest

section setRespChannel

variable (s : State) (c : RespChannel)

@[simp] theorem State.setRespChannel_dt : (s.setRespChannel c).dt = s.dt := rfl
@[simp] theorem State.setRespChannel_cursors : (s.setRespChannel c).cursors = s.cursors := rfl
@[simp] theorem State.setRespChannel_mapQueues : (s.setRespChannel c).mapQueues = s.mapQueues := rfl
@[simp] theorem State.setRespChannel_markHigh : (s.setRespChannel c).markHigh = s.markHigh := rfl
@[simp] theorem State.setRespChannel_markLow : (s.setRespChannel c).markLow = s.markLow := rfl
@[simp] theorem State.setRespChannel_ctxStacks : (s.setRespChannel c).ctxStacks = s.ctxStacks := rfl
@[simp] theorem State.setRespChannel_buffers : (s.setRespChannel c).buffers = s.buffers := rfl
@[simp] theorem State.setRespChannel_slots : (s.setRespChannel c).slots = s.slots := rfl
@[simp] theorem State.setRespChannel_fillList : (s.setRespChannel c).fillList = s.fillList := rfl
@[simp] theorem State.setRespChannel_postQueue : (s.setRespChannel c).postQueue = s.postQueue := rfl
@[simp] theorem State.setRespChannel_tags : (s.setRespChannel c).tags = s.tags := rfl
@[simp] theorem State.setRespChannel_alternation : (s.setRespChannel c).alternation = s.alternation := rfl
@[simp] theorem State.setRespChannel_memRequest : (s.setRespChannel c).memRequest = s.memRequest := rfl
@[simp] theorem State.setRespChannel_respChannel : (s.setRespChannel c).respChannel = c := rfl
@[simp] theorem State.setRespChannel_ports : (s.setRespChannel c).ports = s.ports := rfl
@[simp] theorem State.setRespChannel_notices : (s.setRespChannel c).notices = s.notices := rfl
@[simp] theorem State.setRespChannel_links : (s.setRespChannel c).links = s.links := rfl
@[simp] theorem State.setRespChannel_freeCount : (s.setRespChannel c).freeCount = s.freeCount := rfl
@[simp] theorem State.setRespChannel_pending : (s.setRespChannel c).pending = s.pending := rfl
@[simp] theorem State.desc_setRespChannel (j : Seg) : (s.setRespChannel c).desc j = s.desc j := rfl
@[simp] theorem State.cursor_setRespChannel (j : CursorId) : (s.setRespChannel c).cursor j = s.cursor j := rfl
@[simp] theorem State.mapQueue_setRespChannel (j : Port) : (s.setRespChannel c).mapQueue j = s.mapQueue j := rfl
@[simp] theorem State.stack_setRespChannel (j : Port) : (s.setRespChannel c).stack j = s.stack j := rfl
@[simp] theorem State.buffer_setRespChannel (j : CursorId) : (s.setRespChannel c).buffer j = s.buffer j := rfl
@[simp] theorem State.slot_setRespChannel (j : CursorId) : (s.setRespChannel c).slot j = s.slot j := rfl
@[simp] theorem State.tag_setRespChannel (j : TagNo) : (s.setRespChannel c).tag j = s.tag j := rfl
@[simp] theorem State.port_setRespChannel (j : Port) : (s.setRespChannel c).port j = s.port j := rfl
@[simp] theorem State.noticeQueue_setRespChannel (j : Port) : (s.setRespChannel c).noticeQueue j = s.noticeQueue j := rfl
@[simp] theorem State.link_setRespChannel (j : Port) : (s.setRespChannel c).link j = s.link j := rfl

end setRespChannel

section setPending

variable (s : State) (q : List Instr)

@[simp] theorem State.setPending_dt : (s.setPending q).dt = s.dt := rfl
@[simp] theorem State.setPending_cursors : (s.setPending q).cursors = s.cursors := rfl
@[simp] theorem State.setPending_mapQueues : (s.setPending q).mapQueues = s.mapQueues := rfl
@[simp] theorem State.setPending_markHigh : (s.setPending q).markHigh = s.markHigh := rfl
@[simp] theorem State.setPending_markLow : (s.setPending q).markLow = s.markLow := rfl
@[simp] theorem State.setPending_ctxStacks : (s.setPending q).ctxStacks = s.ctxStacks := rfl
@[simp] theorem State.setPending_buffers : (s.setPending q).buffers = s.buffers := rfl
@[simp] theorem State.setPending_slots : (s.setPending q).slots = s.slots := rfl
@[simp] theorem State.setPending_fillList : (s.setPending q).fillList = s.fillList := rfl
@[simp] theorem State.setPending_postQueue : (s.setPending q).postQueue = s.postQueue := rfl
@[simp] theorem State.setPending_tags : (s.setPending q).tags = s.tags := rfl
@[simp] theorem State.setPending_alternation : (s.setPending q).alternation = s.alternation := rfl
@[simp] theorem State.setPending_memRequest : (s.setPending q).memRequest = s.memRequest := rfl
@[simp] theorem State.setPending_respChannel : (s.setPending q).respChannel = s.respChannel := rfl
@[simp] theorem State.setPending_ports : (s.setPending q).ports = s.ports := rfl
@[simp] theorem State.setPending_notices : (s.setPending q).notices = s.notices := rfl
@[simp] theorem State.setPending_links : (s.setPending q).links = s.links := rfl
@[simp] theorem State.setPending_freeCount : (s.setPending q).freeCount = s.freeCount := rfl
@[simp] theorem State.setPending_pending : (s.setPending q).pending = q := rfl
@[simp] theorem State.desc_setPending (j : Seg) : (s.setPending q).desc j = s.desc j := rfl
@[simp] theorem State.cursor_setPending (j : CursorId) : (s.setPending q).cursor j = s.cursor j := rfl
@[simp] theorem State.mapQueue_setPending (j : Port) : (s.setPending q).mapQueue j = s.mapQueue j := rfl
@[simp] theorem State.stack_setPending (j : Port) : (s.setPending q).stack j = s.stack j := rfl
@[simp] theorem State.buffer_setPending (j : CursorId) : (s.setPending q).buffer j = s.buffer j := rfl
@[simp] theorem State.slot_setPending (j : CursorId) : (s.setPending q).slot j = s.slot j := rfl
@[simp] theorem State.tag_setPending (j : TagNo) : (s.setPending q).tag j = s.tag j := rfl
@[simp] theorem State.port_setPending (j : Port) : (s.setPending q).port j = s.port j := rfl
@[simp] theorem State.noticeQueue_setPending (j : Port) : (s.setPending q).noticeQueue j = s.noticeQueue j := rfl
@[simp] theorem State.link_setPending (j : Port) : (s.setPending q).link j = s.link j := rfl

end setPending

section setFreeCount

variable (s : State) (n : Nat)

@[simp] theorem State.setFreeCount_dt : (s.setFreeCount n).dt = s.dt := rfl
@[simp] theorem State.setFreeCount_cursors : (s.setFreeCount n).cursors = s.cursors := rfl
@[simp] theorem State.setFreeCount_mapQueues : (s.setFreeCount n).mapQueues = s.mapQueues := rfl
@[simp] theorem State.setFreeCount_markHigh : (s.setFreeCount n).markHigh = s.markHigh := rfl
@[simp] theorem State.setFreeCount_markLow : (s.setFreeCount n).markLow = s.markLow := rfl
@[simp] theorem State.setFreeCount_ctxStacks : (s.setFreeCount n).ctxStacks = s.ctxStacks := rfl
@[simp] theorem State.setFreeCount_buffers : (s.setFreeCount n).buffers = s.buffers := rfl
@[simp] theorem State.setFreeCount_slots : (s.setFreeCount n).slots = s.slots := rfl
@[simp] theorem State.setFreeCount_fillList : (s.setFreeCount n).fillList = s.fillList := rfl
@[simp] theorem State.setFreeCount_postQueue : (s.setFreeCount n).postQueue = s.postQueue := rfl
@[simp] theorem State.setFreeCount_tags : (s.setFreeCount n).tags = s.tags := rfl
@[simp] theorem State.setFreeCount_alternation : (s.setFreeCount n).alternation = s.alternation := rfl
@[simp] theorem State.setFreeCount_memRequest : (s.setFreeCount n).memRequest = s.memRequest := rfl
@[simp] theorem State.setFreeCount_respChannel : (s.setFreeCount n).respChannel = s.respChannel := rfl
@[simp] theorem State.setFreeCount_ports : (s.setFreeCount n).ports = s.ports := rfl
@[simp] theorem State.setFreeCount_notices : (s.setFreeCount n).notices = s.notices := rfl
@[simp] theorem State.setFreeCount_links : (s.setFreeCount n).links = s.links := rfl
@[simp] theorem State.setFreeCount_freeCount : (s.setFreeCount n).freeCount = n := rfl
@[simp] theorem State.setFreeCount_pending : (s.setFreeCount n).pending = s.pending := rfl
@[simp] theorem State.desc_setFreeCount (j : Seg) : (s.setFreeCount n).desc j = s.desc j := rfl
@[simp] theorem State.cursor_setFreeCount (j : CursorId) : (s.setFreeCount n).cursor j = s.cursor j := rfl
@[simp] theorem State.mapQueue_setFreeCount (j : Port) : (s.setFreeCount n).mapQueue j = s.mapQueue j := rfl
@[simp] theorem State.stack_setFreeCount (j : Port) : (s.setFreeCount n).stack j = s.stack j := rfl
@[simp] theorem State.buffer_setFreeCount (j : CursorId) : (s.setFreeCount n).buffer j = s.buffer j := rfl
@[simp] theorem State.slot_setFreeCount (j : CursorId) : (s.setFreeCount n).slot j = s.slot j := rfl
@[simp] theorem State.tag_setFreeCount (j : TagNo) : (s.setFreeCount n).tag j = s.tag j := rfl
@[simp] theorem State.port_setFreeCount (j : Port) : (s.setFreeCount n).port j = s.port j := rfl
@[simp] theorem State.noticeQueue_setFreeCount (j : Port) : (s.setFreeCount n).noticeQueue j = s.noticeQueue j := rfl
@[simp] theorem State.link_setFreeCount (j : Port) : (s.setFreeCount n).link j = s.link j := rfl

end setFreeCount

/-! ### The state after reset -/

@[simp] theorem State.reset_desc (j : Seg) : State.reset.desc j = Descriptor.reset := by
  simp [State.reset, State.desc]
@[simp] theorem State.reset_cursor (j : CursorId) : State.reset.cursor j = Cursor.closed := by
  simp [State.reset, State.cursor]
@[simp] theorem State.reset_mapQueue (j : Port) : State.reset.mapQueue j = [] := by
  simp [State.reset, State.mapQueue]
@[simp] theorem State.reset_stack (j : Port) : State.reset.stack j = [] := by
  simp [State.reset, State.stack]
@[simp] theorem State.reset_buffer (j : CursorId) : State.reset.buffer j = .empty := by
  simp [State.reset, State.buffer]
@[simp] theorem State.reset_slot (j : CursorId) : State.reset.slot j = .empty := by
  simp [State.reset, State.slot]
@[simp] theorem State.reset_tag (j : TagNo) : State.reset.tag j = .free := by
  simp [State.reset, State.tag]
@[simp] theorem State.reset_noticeQueue (j : Port) : State.reset.noticeQueue j = ⟨[], false⟩ := by
  simp [State.reset, State.noticeQueue]
@[simp] theorem State.reset_link (j : Port) : State.reset.link j = ⟨none, [], []⟩ := by
  simp [State.reset, State.link]

end Sys2Proof.Machine
end

