-- ==== Sys2Proof/Laws/Ops.lean ====
section
/-! SUPPORT. Laws/Ops.lean: for each shared operation, what it leaves as it was (a lemma for each field and accessor),
and one lemma that says all it does. -/

namespace Sys2Proof.Machine

section notify

variable (s : State) (p : Port) (n : Notice)

@[simp] theorem State.notify_dt : (s.notify p n).dt = s.dt := rfl
@[simp] theorem State.desc_notify (S : Seg) : (s.notify p n).desc S = s.desc S := by
  simp only [State.desc, State.notify_dt]
@[simp] theorem State.notify_cursors : (s.notify p n).cursors = s.cursors := rfl
@[simp] theorem State.cursor_notify (x : CursorId) : (s.notify p n).cursor x = s.cursor x := by
  simp only [State.cursor, State.notify_cursors]
@[simp] theorem State.notify_mapQueues : (s.notify p n).mapQueues = s.mapQueues := rfl
@[simp] theorem State.mapQueue_notify (q : Port) : (s.notify p n).mapQueue q = s.mapQueue q := by
  simp only [State.mapQueue, State.notify_mapQueues]
@[simp] theorem State.notify_markHigh : (s.notify p n).markHigh = s.markHigh := rfl
@[simp] theorem State.notify_markLow : (s.notify p n).markLow = s.markLow := rfl
@[simp] theorem State.notify_ctxStacks : (s.notify p n).ctxStacks = s.ctxStacks := rfl
@[simp] theorem State.stack_notify (q : Port) : (s.notify p n).stack q = s.stack q := by
  simp only [State.stack, State.notify_ctxStacks]
@[simp] theorem State.notify_buffers : (s.notify p n).buffers = s.buffers := rfl
@[simp] theorem State.buffer_notify (x : CursorId) : (s.notify p n).buffer x = s.buffer x := by
  simp only [State.buffer, State.notify_buffers]
@[simp] theorem State.notify_slots : (s.notify p n).slots = s.slots := rfl
@[simp] theorem State.slot_notify (x : CursorId) : (s.notify p n).slot x = s.slot x := by
  simp only [State.slot, State.notify_slots]
@[simp] theorem State.notify_fillList : (s.notify p n).fillList = s.fillList := rfl
@[simp] theorem State.notify_postQueue : (s.notify p n).postQueue = s.postQueue := rfl
@[simp] theorem State.notify_tags : (s.notify p n).tags = s.tags := rfl
@[simp] theorem State.tag_notify (u : TagNo) : (s.notify p n).tag u = s.tag u := by
  simp only [State.tag, State.notify_tags]
@[simp] theorem State.notify_alternation : (s.notify p n).alternation = s.alternation := rfl
@[simp] theorem State.notify_memRequest : (s.notify p n).memRequest = s.memRequest := rfl
@[simp] theorem State.notify_respChannel : (s.notify p n).respChannel = s.respChannel := rfl
@[simp] theorem State.notify_ports : (s.notify p n).ports = s.ports := rfl
@[simp] theorem State.port_notify (q : Port) : (s.notify p n).port q = s.port q := by
  simp only [State.port, State.notify_ports]
@[simp] theorem State.notify_links : (s.notify p n).links = s.links := rfl
@[simp] theorem State.link_notify (q : Port) : (s.notify p n).link q = s.link q := by
  simp only [State.link, State.notify_links]
@[simp] theorem State.notify_freeCount : (s.notify p n).freeCount = s.freeCount := rfl
@[simp] theorem State.notify_pending : (s.notify p n).pending = s.pending := rfl

end notify

section claim

variable (s : State) (A : Seg)

@[simp] theorem State.claim_cursors : (s.claim A).cursors = s.cursors := rfl
@[simp] theorem State.cursor_claim (x : CursorId) : (s.claim A).cursor x = s.cursor x := by
  simp only [State.cursor, State.claim_cursors]
@[simp] theorem State.claim_mapQueues : (s.claim A).mapQueues = s.mapQueues := rfl
@[simp] theorem State.mapQueue_claim (q : Port) : (s.claim A).mapQueue q = s.mapQueue q := by
  simp only [State.mapQueue, State.claim_mapQueues]
@[simp] theorem State.claim_markHigh : (s.claim A).markHigh = s.markHigh := rfl
@[simp] theorem State.claim_markLow : (s.claim A).markLow = s.markLow := rfl
@[simp] theorem State.claim_ctxStacks : (s.claim A).ctxStacks = s.ctxStacks := rfl
@[simp] theorem State.stack_claim (q : Port) : (s.claim A).stack q = s.stack q := by
  simp only [State.stack, State.claim_ctxStacks]
@[simp] theorem State.claim_buffers : (s.claim A).buffers = s.buffers := rfl
@[simp] theorem State.buffer_claim (x : CursorId) : (s.claim A).buffer x = s.buffer x := by
  simp only [State.buffer, State.claim_buffers]
@[simp] theorem State.claim_slots : (s.claim A).slots = s.slots := rfl
@[simp] theorem State.slot_claim (x : CursorId) : (s.claim A).slot x = s.slot x := by
  simp only [State.slot, State.claim_slots]
@[simp] theorem State.claim_fillList : (s.claim A).fillList = s.fillList := rfl
@[simp] theorem State.claim_postQueue : (s.claim A).postQueue = s.postQueue := rfl
@[simp] theorem State.claim_tags : (s.claim A).tags = s.tags := rfl
@[simp] theorem State.tag_claim (u : TagNo) : (s.claim A).tag u = s.tag u := by
  simp only [State.tag, State.claim_tags]
@[simp] theorem State.claim_alternation : (s.claim A).alternation = s.alternation := rfl
@[simp] theorem State.claim_memRequest : (s.claim A).memRequest = s.memRequest := rfl
@[simp] theorem State.claim_respChannel : (s.claim A).respChannel = s.respChannel := rfl
@[simp] theorem State.claim_ports : (s.claim A).ports = s.ports := rfl
@[simp] theorem State.port_claim (q : Port) : (s.claim A).port q = s.port q := by
  simp only [State.port, State.claim_ports]
@[simp] theorem State.claim_notices : (s.claim A).notices = s.notices := rfl
@[simp] theorem State.noticeQueue_claim (q : Port) : (s.claim A).noticeQueue q = s.noticeQueue q := by
  simp only [State.noticeQueue, State.claim_notices]
@[simp] theorem State.claim_links : (s.claim A).links = s.links := rfl
@[simp] theorem State.link_claim (q : Port) : (s.claim A).link q = s.link q := by
  simp only [State.link, State.claim_links]
@[simp] theorem State.claim_freeCount : (s.claim A).freeCount = s.freeCount := rfl
@[simp] theorem State.claim_pending : (s.claim A).pending = s.pending := rfl

end claim

section release

variable (s : State) (A : Seg)

@[simp] theorem State.release_cursors : (s.release A).cursors = s.cursors := by
  unfold State.release; dsimp only; repeat' split
  all_goals simp
@[simp] theorem State.cursor_release (x : CursorId) : (s.release A).cursor x = s.cursor x := by
  simp only [State.cursor, State.release_cursors]
@[simp] theorem State.release_mapQueues : (s.release A).mapQueues = s.mapQueues := by
  unfold State.release; dsimp only; repeat' split
  all_goals simp
@[simp] theorem State.mapQueue_release (q : Port) : (s.release A).mapQueue q = s.mapQueue q := by
  simp only [State.mapQueue, State.release_mapQueues]
@[simp] theorem State.release_markHigh : (s.release A).markHigh = s.markHigh := by
  unfold State.release; dsimp only; repeat' split
  all_goals simp
@[simp] theorem State.release_markLow : (s.release A).markLow = s.markLow := by
  unfold State.release; dsimp only; repeat' split
  all_goals simp
@[simp] theorem State.release_ctxStacks : (s.release A).ctxStacks = s.ctxStacks := by
  unfold State.release; dsimp only; repeat' split
  all_goals simp
@[simp] theorem State.stack_release (q : Port) : (s.release A).stack q = s.stack q := by
  simp only [State.stack, State.release_ctxStacks]
@[simp] theorem State.release_buffers : (s.release A).buffers = s.buffers := by
  unfold State.release; dsimp only; repeat' split
  all_goals simp
@[simp] theorem State.buffer_release (x : CursorId) : (s.release A).buffer x = s.buffer x := by
  simp only [State.buffer, State.release_buffers]
@[simp] theorem State.release_slots : (s.release A).slots = s.slots := by
  unfold State.release; dsimp only; repeat' split
  all_goals simp
@[simp] theorem State.slot_release (x : CursorId) : (s.release A).slot x = s.slot x := by
  simp only [State.slot, State.release_slots]
@[simp] theorem State.release_fillList : (s.release A).fillList = s.fillList := by
  unfold State.release; dsimp only; repeat' split
  all_goals simp
@[simp] theorem State.release_postQueue : (s.release A).postQueue = s.postQueue := by
  unfold State.release; dsimp only; repeat' split
  all_goals simp
@[simp] theorem State.release_tags : (s.release A).tags = s.tags := by
  unfold State.release; dsimp only; repeat' split
  all_goals simp
@[simp] theorem State.tag_release (u : TagNo) : (s.release A).tag u = s.tag u := by
  simp only [State.tag, State.release_tags]
@[simp] theorem State.release_alternation : (s.release A).alternation = s.alternation := by
  unfold State.release; dsimp only; repeat' split
  all_goals simp
@[simp] theorem State.release_memRequest : (s.release A).memRequest = s.memRequest := by
  unfold State.release; dsimp only; repeat' split
  all_goals simp
@[simp] theorem State.release_respChannel : (s.release A).respChannel = s.respChannel := by
  unfold State.release; dsimp only; repeat' split
  all_goals simp
@[simp] theorem State.release_ports : (s.release A).ports = s.ports := by
  unfold State.release; dsimp only; repeat' split
  all_goals simp
@[simp] theorem State.port_release (q : Port) : (s.release A).port q = s.port q := by
  simp only [State.port, State.release_ports]
@[simp] theorem State.release_links : (s.release A).links = s.links := by
  unfold State.release; dsimp only; repeat' split
  all_goals simp
@[simp] theorem State.link_release (q : Port) : (s.release A).link q = s.link q := by
  simp only [State.link, State.release_links]
@[simp] theorem State.release_freeCount : (s.release A).freeCount = s.freeCount := by
  unfold State.release; dsimp only; repeat' split
  all_goals simp
@[simp] theorem State.release_pending : (s.release A).pending = s.pending := by
  unfold State.release; dsimp only; repeat' split
  all_goals simp

end release

section releaseOf

variable (s : State) (c : Cursor)

@[simp] theorem State.releaseOf_cursors : (s.releaseOf c).cursors = s.cursors := by
  unfold State.releaseOf; repeat' split
  all_goals simp
@[simp] theorem State.cursor_releaseOf (x : CursorId) : (s.releaseOf c).cursor x = s.cursor x := by
  simp only [State.cursor, State.releaseOf_cursors]
@[simp] theorem State.releaseOf_mapQueues : (s.releaseOf c).mapQueues = s.mapQueues := by
  unfold State.releaseOf; repeat' split
  all_goals simp
@[simp] theorem State.mapQueue_releaseOf (q : Port) : (s.releaseOf c).mapQueue q = s.mapQueue q := by
  simp only [State.mapQueue, State.releaseOf_mapQueues]
@[simp] theorem State.releaseOf_markHigh : (s.releaseOf c).markHigh = s.markHigh := by
  unfold State.releaseOf; repeat' split
  all_goals simp
@[simp] theorem State.releaseOf_markLow : (s.releaseOf c).markLow = s.markLow := by
  unfold State.releaseOf; repeat' split
  all_goals simp
@[simp] theorem State.releaseOf_ctxStacks : (s.releaseOf c).ctxStacks = s.ctxStacks := by
  unfold State.releaseOf; repeat' split
  all_goals simp
@[simp] theorem State.stack_releaseOf (q : Port) : (s.releaseOf c).stack q = s.stack q := by
  simp only [State.stack, State.releaseOf_ctxStacks]
@[simp] theorem State.releaseOf_buffers : (s.releaseOf c).buffers = s.buffers := by
  unfold State.releaseOf; repeat' split
  all_goals simp
@[simp] theorem State.buffer_releaseOf (x : CursorId) : (s.releaseOf c).buffer x = s.buffer x := by
  simp only [State.buffer, State.releaseOf_buffers]
@[simp] theorem State.releaseOf_slots : (s.releaseOf c).slots = s.slots := by
  unfold State.releaseOf; repeat' split
  all_goals simp
@[simp] theorem State.slot_releaseOf (x : CursorId) : (s.releaseOf c).slot x = s.slot x := by
  simp only [State.slot, State.releaseOf_slots]
@[simp] theorem State.releaseOf_fillList : (s.releaseOf c).fillList = s.fillList := by
  unfold State.releaseOf; repeat' split
  all_goals simp
@[simp] theorem State.releaseOf_postQueue : (s.releaseOf c).postQueue = s.postQueue := by
  unfold State.releaseOf; repeat' split
  all_goals simp
@[simp] theorem State.releaseOf_tags : (s.releaseOf c).tags = s.tags := by
  unfold State.releaseOf; repeat' split
  all_goals simp
@[simp] theorem State.tag_releaseOf (u : TagNo) : (s.releaseOf c).tag u = s.tag u := by
  simp only [State.tag, State.releaseOf_tags]
@[simp] theorem State.releaseOf_alternation : (s.releaseOf c).alternation = s.alternation := by
  unfold State.releaseOf; repeat' split
  all_goals simp
@[simp] theorem State.releaseOf_memRequest : (s.releaseOf c).memRequest = s.memRequest := by
  unfold State.releaseOf; repeat' split
  all_goals simp
@[simp] theorem State.releaseOf_respChannel : (s.releaseOf c).respChannel = s.respChannel := by
  unfold State.releaseOf; repeat' split
  all_goals simp
@[simp] theorem State.releaseOf_ports : (s.releaseOf c).ports = s.ports := by
  unfold State.releaseOf; repeat' split
  all_goals simp
@[simp] theorem State.port_releaseOf (q : Port) : (s.releaseOf c).port q = s.port q := by
  simp only [State.port, State.releaseOf_ports]
@[simp] theorem State.releaseOf_links : (s.releaseOf c).links = s.links := by
  unfold State.releaseOf; repeat' split
  all_goals simp
@[simp] theorem State.link_releaseOf (q : Port) : (s.releaseOf c).link q = s.link q := by
  simp only [State.link, State.releaseOf_links]
@[simp] theorem State.releaseOf_freeCount : (s.releaseOf c).freeCount = s.freeCount := by
  unfold State.releaseOf; repeat' split
  all_goals simp
@[simp] theorem State.releaseOf_pending : (s.releaseOf c).pending = s.pending := by
  unfold State.releaseOf; repeat' split
  all_goals simp

end releaseOf

section letGo

variable (s : State) (y : Context)

@[simp] theorem State.letGo_cursors : (s.letGo y).cursors = s.cursors := by
  unfold State.letGo; split <;> simp
@[simp] theorem State.cursor_letGo (x : CursorId) : (s.letGo y).cursor x = s.cursor x := by
  simp only [State.cursor, State.letGo_cursors]
@[simp] theorem State.letGo_mapQueues : (s.letGo y).mapQueues = s.mapQueues := by
  unfold State.letGo; split <;> simp
@[simp] theorem State.mapQueue_letGo (q : Port) : (s.letGo y).mapQueue q = s.mapQueue q := by
  simp only [State.mapQueue, State.letGo_mapQueues]
@[simp] theorem State.letGo_markHigh : (s.letGo y).markHigh = s.markHigh := by
  unfold State.letGo; split <;> simp
@[simp] theorem State.letGo_markLow : (s.letGo y).markLow = s.markLow := by
  unfold State.letGo; split <;> simp
@[simp] theorem State.letGo_ctxStacks : (s.letGo y).ctxStacks = s.ctxStacks := by
  unfold State.letGo; split <;> simp
@[simp] theorem State.stack_letGo (q : Port) : (s.letGo y).stack q = s.stack q := by
  simp only [State.stack, State.letGo_ctxStacks]
@[simp] theorem State.letGo_buffers : (s.letGo y).buffers = s.buffers := by
  unfold State.letGo; split <;> simp
@[simp] theorem State.buffer_letGo (x : CursorId) : (s.letGo y).buffer x = s.buffer x := by
  simp only [State.buffer, State.letGo_buffers]
@[simp] theorem State.letGo_slots : (s.letGo y).slots = s.slots := by
  unfold State.letGo; split <;> simp
@[simp] theorem State.slot_letGo (x : CursorId) : (s.letGo y).slot x = s.slot x := by
  simp only [State.slot, State.letGo_slots]
@[simp] theorem State.letGo_fillList : (s.letGo y).fillList = s.fillList := by
  unfold State.letGo; split <;> simp
@[simp] theorem State.letGo_postQueue : (s.letGo y).postQueue = s.postQueue := by
  unfold State.letGo; split <;> simp
@[simp] theorem State.letGo_tags : (s.letGo y).tags = s.tags := by
  unfold State.letGo; split <;> simp
@[simp] theorem State.tag_letGo (u : TagNo) : (s.letGo y).tag u = s.tag u := by
  simp only [State.tag, State.letGo_tags]
@[simp] theorem State.letGo_alternation : (s.letGo y).alternation = s.alternation := by
  unfold State.letGo; split <;> simp
@[simp] theorem State.letGo_memRequest : (s.letGo y).memRequest = s.memRequest := by
  unfold State.letGo; split <;> simp
@[simp] theorem State.letGo_respChannel : (s.letGo y).respChannel = s.respChannel := by
  unfold State.letGo; split <;> simp
@[simp] theorem State.letGo_ports : (s.letGo y).ports = s.ports := by
  unfold State.letGo; split <;> simp
@[simp] theorem State.port_letGo (q : Port) : (s.letGo y).port q = s.port q := by
  simp only [State.port, State.letGo_ports]
@[simp] theorem State.letGo_links : (s.letGo y).links = s.links := by
  unfold State.letGo; split <;> simp
@[simp] theorem State.link_letGo (q : Port) : (s.letGo y).link q = s.link q := by
  simp only [State.link, State.letGo_links]
@[simp] theorem State.letGo_freeCount : (s.letGo y).freeCount = s.freeCount := by
  unfold State.letGo; split <;> simp
@[simp] theorem State.letGo_pending : (s.letGo y).pending = s.pending := by
  unfold State.letGo; split <;> simp

end letGo

section joinQueue

variable (s : State) (id : CursorId)

@[simp] theorem State.joinQueue_dt : (s.joinQueue id).dt = s.dt := rfl
@[simp] theorem State.desc_joinQueue (S : Seg) : (s.joinQueue id).desc S = s.desc S := by
  simp only [State.desc, State.joinQueue_dt]
@[simp] theorem State.joinQueue_cursors : (s.joinQueue id).cursors = s.cursors := rfl
@[simp] theorem State.cursor_joinQueue (x : CursorId) : (s.joinQueue id).cursor x = s.cursor x := by
  simp only [State.cursor, State.joinQueue_cursors]
@[simp] theorem State.joinQueue_markHigh : (s.joinQueue id).markHigh = s.markHigh := rfl
@[simp] theorem State.joinQueue_markLow : (s.joinQueue id).markLow = s.markLow := rfl
@[simp] theorem State.joinQueue_ctxStacks : (s.joinQueue id).ctxStacks = s.ctxStacks := rfl
@[simp] theorem State.stack_joinQueue (q : Port) : (s.joinQueue id).stack q = s.stack q := by
  simp only [State.stack, State.joinQueue_ctxStacks]
@[simp] theorem State.joinQueue_buffers : (s.joinQueue id).buffers = s.buffers := rfl
@[simp] theorem State.buffer_joinQueue (x : CursorId) : (s.joinQueue id).buffer x = s.buffer x := by
  simp only [State.buffer, State.joinQueue_buffers]
@[simp] theorem State.joinQueue_slots : (s.joinQueue id).slots = s.slots := rfl
@[simp] theorem State.slot_joinQueue (x : CursorId) : (s.joinQueue id).slot x = s.slot x := by
  simp only [State.slot, State.joinQueue_slots]
@[simp] theorem State.joinQueue_fillList : (s.joinQueue id).fillList = s.fillList := rfl
@[simp] theorem State.joinQueue_postQueue : (s.joinQueue id).postQueue = s.postQueue := rfl
@[simp] theorem State.joinQueue_tags : (s.joinQueue id).tags = s.tags := rfl
@[simp] theorem State.tag_joinQueue (u : TagNo) : (s.joinQueue id).tag u = s.tag u := by
  simp only [State.tag, State.joinQueue_tags]
@[simp] theorem State.joinQueue_alternation : (s.joinQueue id).alternation = s.alternation := rfl
@[simp] theorem State.joinQueue_memRequest : (s.joinQueue id).memRequest = s.memRequest := rfl
@[simp] theorem State.joinQueue_respChannel : (s.joinQueue id).respChannel = s.respChannel := rfl
@[simp] theorem State.joinQueue_ports : (s.joinQueue id).ports = s.ports := rfl
@[simp] theorem State.port_joinQueue (q : Port) : (s.joinQueue id).port q = s.port q := by
  simp only [State.port, State.joinQueue_ports]
@[simp] theorem State.joinQueue_notices : (s.joinQueue id).notices = s.notices := rfl
@[simp] theorem State.noticeQueue_joinQueue (q : Port) : (s.joinQueue id).noticeQueue q = s.noticeQueue q := by
  simp only [State.noticeQueue, State.joinQueue_notices]
@[simp] theorem State.joinQueue_links : (s.joinQueue id).links = s.links := rfl
@[simp] theorem State.link_joinQueue (q : Port) : (s.joinQueue id).link q = s.link q := by
  simp only [State.link, State.joinQueue_links]
@[simp] theorem State.joinQueue_freeCount : (s.joinQueue id).freeCount = s.freeCount := rfl
@[simp] theorem State.joinQueue_pending : (s.joinQueue id).pending = s.pending := rfl

end joinQueue

section leaveQueue

variable (s : State) (id : CursorId)

@[simp] theorem State.leaveQueue_dt : (s.leaveQueue id).dt = s.dt := rfl
@[simp] theorem State.desc_leaveQueue (S : Seg) : (s.leaveQueue id).desc S = s.desc S := by
  simp only [State.desc, State.leaveQueue_dt]
@[simp] theorem State.leaveQueue_cursors : (s.leaveQueue id).cursors = s.cursors := rfl
@[simp] theorem State.cursor_leaveQueue (x : CursorId) : (s.leaveQueue id).cursor x = s.cursor x := by
  simp only [State.cursor, State.leaveQueue_cursors]
@[simp] theorem State.leaveQueue_markHigh : (s.leaveQueue id).markHigh = s.markHigh := rfl
@[simp] theorem State.leaveQueue_markLow : (s.leaveQueue id).markLow = s.markLow := rfl
@[simp] theorem State.leaveQueue_ctxStacks : (s.leaveQueue id).ctxStacks = s.ctxStacks := rfl
@[simp] theorem State.stack_leaveQueue (q : Port) : (s.leaveQueue id).stack q = s.stack q := by
  simp only [State.stack, State.leaveQueue_ctxStacks]
@[simp] theorem State.leaveQueue_buffers : (s.leaveQueue id).buffers = s.buffers := rfl
@[simp] theorem State.buffer_leaveQueue (x : CursorId) : (s.leaveQueue id).buffer x = s.buffer x := by
  simp only [State.buffer, State.leaveQueue_buffers]
@[simp] theorem State.leaveQueue_slots : (s.leaveQueue id).slots = s.slots := rfl
@[simp] theorem State.slot_leaveQueue (x : CursorId) : (s.leaveQueue id).slot x = s.slot x := by
  simp only [State.slot, State.leaveQueue_slots]
@[simp] theorem State.leaveQueue_fillList : (s.leaveQueue id).fillList = s.fillList := rfl
@[simp] theorem State.leaveQueue_postQueue : (s.leaveQueue id).postQueue = s.postQueue := rfl
@[simp] theorem State.leaveQueue_tags : (s.leaveQueue id).tags = s.tags := rfl
@[simp] theorem State.tag_leaveQueue (u : TagNo) : (s.leaveQueue id).tag u = s.tag u := by
  simp only [State.tag, State.leaveQueue_tags]
@[simp] theorem State.leaveQueue_alternation : (s.leaveQueue id).alternation = s.alternation := rfl
@[simp] theorem State.leaveQueue_memRequest : (s.leaveQueue id).memRequest = s.memRequest := rfl
@[simp] theorem State.leaveQueue_respChannel : (s.leaveQueue id).respChannel = s.respChannel := rfl
@[simp] theorem State.leaveQueue_ports : (s.leaveQueue id).ports = s.ports := rfl
@[simp] theorem State.port_leaveQueue (q : Port) : (s.leaveQueue id).port q = s.port q := by
  simp only [State.port, State.leaveQueue_ports]
@[simp] theorem State.leaveQueue_notices : (s.leaveQueue id).notices = s.notices := rfl
@[simp] theorem State.noticeQueue_leaveQueue (q : Port) : (s.leaveQueue id).noticeQueue q = s.noticeQueue q := by
  simp only [State.noticeQueue, State.leaveQueue_notices]
@[simp] theorem State.leaveQueue_links : (s.leaveQueue id).links = s.links := rfl
@[simp] theorem State.link_leaveQueue (q : Port) : (s.leaveQueue id).link q = s.link q := by
  simp only [State.link, State.leaveQueue_links]
@[simp] theorem State.leaveQueue_freeCount : (s.leaveQueue id).freeCount = s.freeCount := rfl
@[simp] theorem State.leaveQueue_pending : (s.leaveQueue id).pending = s.pending := rfl

end leaveQueue

section cancelRead

variable (s : State) (id : CursorId) (k : Bool)

@[simp] theorem State.cancelRead_dt : (s.cancelRead id k).dt = s.dt := rfl
@[simp] theorem State.desc_cancelRead (S : Seg) : (s.cancelRead id k).desc S = s.desc S := by
  simp only [State.desc, State.cancelRead_dt]
@[simp] theorem State.cancelRead_cursors : (s.cancelRead id k).cursors = s.cursors := rfl
@[simp] theorem State.cursor_cancelRead (x : CursorId) : (s.cancelRead id k).cursor x = s.cursor x := by
  simp only [State.cursor, State.cancelRead_cursors]
@[simp] theorem State.cancelRead_mapQueues : (s.cancelRead id k).mapQueues = s.mapQueues := rfl
@[simp] theorem State.mapQueue_cancelRead (q : Port) : (s.cancelRead id k).mapQueue q = s.mapQueue q := by
  simp only [State.mapQueue, State.cancelRead_mapQueues]
@[simp] theorem State.cancelRead_markHigh : (s.cancelRead id k).markHigh = s.markHigh := rfl
@[simp] theorem State.cancelRead_markLow : (s.cancelRead id k).markLow = s.markLow := rfl
@[simp] theorem State.cancelRead_ctxStacks : (s.cancelRead id k).ctxStacks = s.ctxStacks := rfl
@[simp] theorem State.stack_cancelRead (q : Port) : (s.cancelRead id k).stack q = s.stack q := by
  simp only [State.stack, State.cancelRead_ctxStacks]
@[simp] theorem State.cancelRead_postQueue : (s.cancelRead id k).postQueue = s.postQueue := rfl
@[simp] theorem State.cancelRead_tags : (s.cancelRead id k).tags = s.tags := rfl
@[simp] theorem State.tag_cancelRead (u : TagNo) : (s.cancelRead id k).tag u = s.tag u := by
  simp only [State.tag, State.cancelRead_tags]
@[simp] theorem State.cancelRead_alternation : (s.cancelRead id k).alternation = s.alternation := rfl
@[simp] theorem State.cancelRead_memRequest : (s.cancelRead id k).memRequest = s.memRequest := rfl
@[simp] theorem State.cancelRead_respChannel : (s.cancelRead id k).respChannel = s.respChannel := rfl
@[simp] theorem State.cancelRead_ports : (s.cancelRead id k).ports = s.ports := rfl
@[simp] theorem State.port_cancelRead (q : Port) : (s.cancelRead id k).port q = s.port q := by
  simp only [State.port, State.cancelRead_ports]
@[simp] theorem State.cancelRead_notices : (s.cancelRead id k).notices = s.notices := rfl
@[simp] theorem State.noticeQueue_cancelRead (q : Port) : (s.cancelRead id k).noticeQueue q = s.noticeQueue q := by
  simp only [State.noticeQueue, State.cancelRead_notices]
@[simp] theorem State.cancelRead_links : (s.cancelRead id k).links = s.links := rfl
@[simp] theorem State.link_cancelRead (q : Port) : (s.cancelRead id k).link q = s.link q := by
  simp only [State.link, State.cancelRead_links]
@[simp] theorem State.cancelRead_freeCount : (s.cancelRead id k).freeCount = s.freeCount := rfl
@[simp] theorem State.cancelRead_pending : (s.cancelRead id k).pending = s.pending := rfl

end cancelRead

section closeCursor

variable (s : State) (id : CursorId)

@[simp] theorem State.closeCursor_markHigh : (s.closeCursor id).markHigh = s.markHigh := by
  unfold State.closeCursor; split <;> simp
@[simp] theorem State.closeCursor_markLow : (s.closeCursor id).markLow = s.markLow := by
  unfold State.closeCursor; split <;> simp
@[simp] theorem State.closeCursor_ctxStacks : (s.closeCursor id).ctxStacks = s.ctxStacks := by
  unfold State.closeCursor; split <;> simp
@[simp] theorem State.stack_closeCursor (q : Port) : (s.closeCursor id).stack q = s.stack q := by
  simp only [State.stack, State.closeCursor_ctxStacks]
@[simp] theorem State.closeCursor_postQueue : (s.closeCursor id).postQueue = s.postQueue := by
  unfold State.closeCursor; split <;> simp
@[simp] theorem State.closeCursor_tags : (s.closeCursor id).tags = s.tags := by
  unfold State.closeCursor; split <;> simp
@[simp] theorem State.tag_closeCursor (u : TagNo) : (s.closeCursor id).tag u = s.tag u := by
  simp only [State.tag, State.closeCursor_tags]
@[simp] theorem State.closeCursor_alternation : (s.closeCursor id).alternation = s.alternation := by
  unfold State.closeCursor; split <;> simp
@[simp] theorem State.closeCursor_memRequest : (s.closeCursor id).memRequest = s.memRequest := by
  unfold State.closeCursor; split <;> simp
@[simp] theorem State.closeCursor_respChannel : (s.closeCursor id).respChannel = s.respChannel := by
  unfold State.closeCursor; split <;> simp
@[simp] theorem State.closeCursor_ports : (s.closeCursor id).ports = s.ports := by
  unfold State.closeCursor; split <;> simp
@[simp] theorem State.port_closeCursor (q : Port) : (s.closeCursor id).port q = s.port q := by
  simp only [State.port, State.closeCursor_ports]
@[simp] theorem State.closeCursor_links : (s.closeCursor id).links = s.links := by
  unfold State.closeCursor; split <;> simp
@[simp] theorem State.link_closeCursor (q : Port) : (s.closeCursor id).link q = s.link q := by
  simp only [State.link, State.closeCursor_links]
@[simp] theorem State.closeCursor_freeCount : (s.closeCursor id).freeCount = s.freeCount := by
  unfold State.closeCursor; split <;> simp
@[simp] theorem State.closeCursor_pending : (s.closeCursor id).pending = s.pending := by
  unfold State.closeCursor; split <;> simp

end closeCursor

section spendOffset

variable (s : State) (y : Int)

@[simp] theorem State.spendOffset_dt : (s.spendOffset y).dt = s.dt := by
  unfold State.spendOffset; split <;> rfl
@[simp] theorem State.desc_spendOffset (S : Seg) : (s.spendOffset y).desc S = s.desc S := by
  simp only [State.desc, State.spendOffset_dt]
@[simp] theorem State.spendOffset_cursors : (s.spendOffset y).cursors = s.cursors := by
  unfold State.spendOffset; split <;> rfl
@[simp] theorem State.cursor_spendOffset (x : CursorId) : (s.spendOffset y).cursor x = s.cursor x := by
  simp only [State.cursor, State.spendOffset_cursors]
@[simp] theorem State.spendOffset_mapQueues : (s.spendOffset y).mapQueues = s.mapQueues := by
  unfold State.spendOffset; split <;> rfl
@[simp] theorem State.mapQueue_spendOffset (q : Port) : (s.spendOffset y).mapQueue q = s.mapQueue q := by
  simp only [State.mapQueue, State.spendOffset_mapQueues]
@[simp] theorem State.spendOffset_markHigh : (s.spendOffset y).markHigh = s.markHigh := by
  unfold State.spendOffset; split <;> rfl
@[simp] theorem State.spendOffset_markLow : (s.spendOffset y).markLow = s.markLow := by
  unfold State.spendOffset; split <;> rfl
@[simp] theorem State.spendOffset_ctxStacks : (s.spendOffset y).ctxStacks = s.ctxStacks := by
  unfold State.spendOffset; split <;> rfl
@[simp] theorem State.stack_spendOffset (q : Port) : (s.spendOffset y).stack q = s.stack q := by
  simp only [State.stack, State.spendOffset_ctxStacks]
@[simp] theorem State.spendOffset_buffers : (s.spendOffset y).buffers = s.buffers := by
  unfold State.spendOffset; split <;> rfl
@[simp] theorem State.buffer_spendOffset (x : CursorId) : (s.spendOffset y).buffer x = s.buffer x := by
  simp only [State.buffer, State.spendOffset_buffers]
@[simp] theorem State.spendOffset_slots : (s.spendOffset y).slots = s.slots := by
  unfold State.spendOffset; split <;> rfl
@[simp] theorem State.slot_spendOffset (x : CursorId) : (s.spendOffset y).slot x = s.slot x := by
  simp only [State.slot, State.spendOffset_slots]
@[simp] theorem State.spendOffset_fillList : (s.spendOffset y).fillList = s.fillList := by
  unfold State.spendOffset; split <;> rfl
@[simp] theorem State.spendOffset_postQueue : (s.spendOffset y).postQueue = s.postQueue := by
  unfold State.spendOffset; split <;> rfl
@[simp] theorem State.spendOffset_tags : (s.spendOffset y).tags = s.tags := by
  unfold State.spendOffset; split <;> rfl
@[simp] theorem State.tag_spendOffset (u : TagNo) : (s.spendOffset y).tag u = s.tag u := by
  simp only [State.tag, State.spendOffset_tags]
@[simp] theorem State.spendOffset_alternation : (s.spendOffset y).alternation = s.alternation := by
  unfold State.spendOffset; split <;> rfl
@[simp] theorem State.spendOffset_memRequest : (s.spendOffset y).memRequest = s.memRequest := by
  unfold State.spendOffset; split <;> rfl
@[simp] theorem State.spendOffset_respChannel : (s.spendOffset y).respChannel = s.respChannel := by
  unfold State.spendOffset; split <;> rfl
@[simp] theorem State.spendOffset_ports : (s.spendOffset y).ports = s.ports := by
  unfold State.spendOffset; split <;> rfl
@[simp] theorem State.port_spendOffset (q : Port) : (s.spendOffset y).port q = s.port q := by
  simp only [State.port, State.spendOffset_ports]
@[simp] theorem State.spendOffset_notices : (s.spendOffset y).notices = s.notices := by
  unfold State.spendOffset; split <;> rfl
@[simp] theorem State.noticeQueue_spendOffset (q : Port) : (s.spendOffset y).noticeQueue q = s.noticeQueue q := by
  simp only [State.noticeQueue, State.spendOffset_notices]
@[simp] theorem State.spendOffset_links : (s.spendOffset y).links = s.links := by
  unfold State.spendOffset; split <;> rfl
@[simp] theorem State.link_spendOffset (q : Port) : (s.spendOffset y).link q = s.link q := by
  simp only [State.link, State.spendOffset_links]
@[simp] theorem State.spendOffset_pending : (s.spendOffset y).pending = s.pending := by
  unfold State.spendOffset; split <;> rfl

end spendOffset

section advance

variable (s : State) (id : CursorId) (A : Seg) (m : Nat)

@[simp] theorem State.advance_markHigh : (s.advance id A m).markHigh = s.markHigh := by
  unfold State.advance; dsimp only; split <;> simp
@[simp] theorem State.advance_markLow : (s.advance id A m).markLow = s.markLow := by
  unfold State.advance; dsimp only; split <;> simp
@[simp] theorem State.advance_ctxStacks : (s.advance id A m).ctxStacks = s.ctxStacks := by
  unfold State.advance; dsimp only; split <;> simp
@[simp] theorem State.stack_advance (q : Port) : (s.advance id A m).stack q = s.stack q := by
  simp only [State.stack, State.advance_ctxStacks]
@[simp] theorem State.advance_buffers : (s.advance id A m).buffers = s.buffers := by
  unfold State.advance; dsimp only; split <;> simp
@[simp] theorem State.buffer_advance (x : CursorId) : (s.advance id A m).buffer x = s.buffer x := by
  simp only [State.buffer, State.advance_buffers]
@[simp] theorem State.advance_slots : (s.advance id A m).slots = s.slots := by
  unfold State.advance; dsimp only; split <;> simp
@[simp] theorem State.slot_advance (x : CursorId) : (s.advance id A m).slot x = s.slot x := by
  simp only [State.slot, State.advance_slots]
@[simp] theorem State.advance_fillList : (s.advance id A m).fillList = s.fillList := by
  unfold State.advance; dsimp only; split <;> simp
@[simp] theorem State.advance_postQueue : (s.advance id A m).postQueue = s.postQueue := by
  unfold State.advance; dsimp only; split <;> simp
@[simp] theorem State.advance_tags : (s.advance id A m).tags = s.tags := by
  unfold State.advance; dsimp only; split <;> simp
@[simp] theorem State.tag_advance (u : TagNo) : (s.advance id A m).tag u = s.tag u := by
  simp only [State.tag, State.advance_tags]
@[simp] theorem State.advance_alternation : (s.advance id A m).alternation = s.alternation := by
  unfold State.advance; dsimp only; split <;> simp
@[simp] theorem State.advance_memRequest : (s.advance id A m).memRequest = s.memRequest := by
  unfold State.advance; dsimp only; split <;> simp
@[simp] theorem State.advance_respChannel : (s.advance id A m).respChannel = s.respChannel := by
  unfold State.advance; dsimp only; split <;> simp
@[simp] theorem State.advance_ports : (s.advance id A m).ports = s.ports := by
  unfold State.advance; dsimp only; split <;> simp
@[simp] theorem State.port_advance (q : Port) : (s.advance id A m).port q = s.port q := by
  simp only [State.port, State.advance_ports]
@[simp] theorem State.advance_links : (s.advance id A m).links = s.links := by
  unfold State.advance; dsimp only; split <;> simp
@[simp] theorem State.link_advance (q : Port) : (s.advance id A m).link q = s.link q := by
  simp only [State.link, State.advance_links]
@[simp] theorem State.advance_pending : (s.advance id A m).pending = s.pending := by
  unfold State.advance; dsimp only; split <;> simp

end advance

section answer

variable (s : State) (p : Port) (r : Response)

@[simp] theorem State.answer_dt : (s.answer p r).dt = s.dt := rfl
@[simp] theorem State.desc_answer (S : Seg) : (s.answer p r).desc S = s.desc S := by
  simp only [State.desc, State.answer_dt]
@[simp] theorem State.answer_cursors : (s.answer p r).cursors = s.cursors := rfl
@[simp] theorem State.cursor_answer (x : CursorId) : (s.answer p r).cursor x = s.cursor x := by
  simp only [State.cursor, State.answer_cursors]
@[simp] theorem State.answer_mapQueues : (s.answer p r).mapQueues = s.mapQueues := rfl
@[simp] theorem State.mapQueue_answer (q : Port) : (s.answer p r).mapQueue q = s.mapQueue q := by
  simp only [State.mapQueue, State.answer_mapQueues]
@[simp] theorem State.answer_markHigh : (s.answer p r).markHigh = s.markHigh := rfl
@[simp] theorem State.answer_markLow : (s.answer p r).markLow = s.markLow := rfl
@[simp] theorem State.answer_ctxStacks : (s.answer p r).ctxStacks = s.ctxStacks := rfl
@[simp] theorem State.stack_answer (q : Port) : (s.answer p r).stack q = s.stack q := by
  simp only [State.stack, State.answer_ctxStacks]
@[simp] theorem State.answer_buffers : (s.answer p r).buffers = s.buffers := rfl
@[simp] theorem State.buffer_answer (x : CursorId) : (s.answer p r).buffer x = s.buffer x := by
  simp only [State.buffer, State.answer_buffers]
@[simp] theorem State.answer_slots : (s.answer p r).slots = s.slots := rfl
@[simp] theorem State.slot_answer (x : CursorId) : (s.answer p r).slot x = s.slot x := by
  simp only [State.slot, State.answer_slots]
@[simp] theorem State.answer_fillList : (s.answer p r).fillList = s.fillList := rfl
@[simp] theorem State.answer_postQueue : (s.answer p r).postQueue = s.postQueue := rfl
@[simp] theorem State.answer_tags : (s.answer p r).tags = s.tags := rfl
@[simp] theorem State.tag_answer (u : TagNo) : (s.answer p r).tag u = s.tag u := by
  simp only [State.tag, State.answer_tags]
@[simp] theorem State.answer_alternation : (s.answer p r).alternation = s.alternation := rfl
@[simp] theorem State.answer_memRequest : (s.answer p r).memRequest = s.memRequest := rfl
@[simp] theorem State.answer_respChannel : (s.answer p r).respChannel = s.respChannel := rfl
@[simp] theorem State.answer_ports : (s.answer p r).ports = s.ports := rfl
@[simp] theorem State.port_answer (q : Port) : (s.answer p r).port q = s.port q := by
  simp only [State.port, State.answer_ports]
@[simp] theorem State.answer_notices : (s.answer p r).notices = s.notices := rfl
@[simp] theorem State.noticeQueue_answer (q : Port) : (s.answer p r).noticeQueue q = s.noticeQueue q := by
  simp only [State.noticeQueue, State.answer_notices]
@[simp] theorem State.answer_freeCount : (s.answer p r).freeCount = s.freeCount := rfl
@[simp] theorem State.answer_pending : (s.answer p r).pending = s.pending := rfl

end answer

section holdRequest

variable (s : State) (p : Port) (i : Instr)

@[simp] theorem State.holdRequest_dt : (s.holdRequest p i).dt = s.dt := rfl
@[simp] theorem State.desc_holdRequest (S : Seg) : (s.holdRequest p i).desc S = s.desc S := by
  simp only [State.desc, State.holdRequest_dt]
@[simp] theorem State.holdRequest_cursors : (s.holdRequest p i).cursors = s.cursors := rfl
@[simp] theorem State.cursor_holdRequest (x : CursorId) : (s.holdRequest p i).cursor x = s.cursor x := by
  simp only [State.cursor, State.holdRequest_cursors]
@[simp] theorem State.holdRequest_mapQueues : (s.holdRequest p i).mapQueues = s.mapQueues := rfl
@[simp] theorem State.mapQueue_holdRequest (q : Port) : (s.holdRequest p i).mapQueue q = s.mapQueue q := by
  simp only [State.mapQueue, State.holdRequest_mapQueues]
@[simp] theorem State.holdRequest_markHigh : (s.holdRequest p i).markHigh = s.markHigh := rfl
@[simp] theorem State.holdRequest_markLow : (s.holdRequest p i).markLow = s.markLow := rfl
@[simp] theorem State.holdRequest_ctxStacks : (s.holdRequest p i).ctxStacks = s.ctxStacks := rfl
@[simp] theorem State.stack_holdRequest (q : Port) : (s.holdRequest p i).stack q = s.stack q := by
  simp only [State.stack, State.holdRequest_ctxStacks]
@[simp] theorem State.holdRequest_buffers : (s.holdRequest p i).buffers = s.buffers := rfl
@[simp] theorem State.buffer_holdRequest (x : CursorId) : (s.holdRequest p i).buffer x = s.buffer x := by
  simp only [State.buffer, State.holdRequest_buffers]
@[simp] theorem State.holdRequest_slots : (s.holdRequest p i).slots = s.slots := rfl
@[simp] theorem State.slot_holdRequest (x : CursorId) : (s.holdRequest p i).slot x = s.slot x := by
  simp only [State.slot, State.holdRequest_slots]
@[simp] theorem State.holdRequest_fillList : (s.holdRequest p i).fillList = s.fillList := rfl
@[simp] theorem State.holdRequest_postQueue : (s.holdRequest p i).postQueue = s.postQueue := rfl
@[simp] theorem State.holdRequest_tags : (s.holdRequest p i).tags = s.tags := rfl
@[simp] theorem State.tag_holdRequest (u : TagNo) : (s.holdRequest p i).tag u = s.tag u := by
  simp only [State.tag, State.holdRequest_tags]
@[simp] theorem State.holdRequest_alternation : (s.holdRequest p i).alternation = s.alternation := rfl
@[simp] theorem State.holdRequest_memRequest : (s.holdRequest p i).memRequest = s.memRequest := rfl
@[simp] theorem State.holdRequest_respChannel : (s.holdRequest p i).respChannel = s.respChannel := rfl
@[simp] theorem State.holdRequest_ports : (s.holdRequest p i).ports = s.ports := rfl
@[simp] theorem State.port_holdRequest (q : Port) : (s.holdRequest p i).port q = s.port q := by
  simp only [State.port, State.holdRequest_ports]
@[simp] theorem State.holdRequest_notices : (s.holdRequest p i).notices = s.notices := rfl
@[simp] theorem State.noticeQueue_holdRequest (q : Port) : (s.holdRequest p i).noticeQueue q = s.noticeQueue q := by
  simp only [State.noticeQueue, State.holdRequest_notices]
@[simp] theorem State.holdRequest_freeCount : (s.holdRequest p i).freeCount = s.freeCount := rfl
@[simp] theorem State.holdRequest_pending : (s.holdRequest p i).pending = s.pending := rfl

end holdRequest

section reoffer

variable (s : State) (p : Port)

@[simp] theorem State.reoffer_dt : (s.reoffer p).dt = s.dt := rfl
@[simp] theorem State.desc_reoffer (S : Seg) : (s.reoffer p).desc S = s.desc S := by
  simp only [State.desc, State.reoffer_dt]
@[simp] theorem State.reoffer_cursors : (s.reoffer p).cursors = s.cursors := rfl
@[simp] theorem State.cursor_reoffer (x : CursorId) : (s.reoffer p).cursor x = s.cursor x := by
  simp only [State.cursor, State.reoffer_cursors]
@[simp] theorem State.reoffer_mapQueues : (s.reoffer p).mapQueues = s.mapQueues := rfl
@[simp] theorem State.mapQueue_reoffer (q : Port) : (s.reoffer p).mapQueue q = s.mapQueue q := by
  simp only [State.mapQueue, State.reoffer_mapQueues]
@[simp] theorem State.reoffer_markHigh : (s.reoffer p).markHigh = s.markHigh := rfl
@[simp] theorem State.reoffer_markLow : (s.reoffer p).markLow = s.markLow := rfl
@[simp] theorem State.reoffer_ctxStacks : (s.reoffer p).ctxStacks = s.ctxStacks := rfl
@[simp] theorem State.stack_reoffer (q : Port) : (s.reoffer p).stack q = s.stack q := by
  simp only [State.stack, State.reoffer_ctxStacks]
@[simp] theorem State.reoffer_buffers : (s.reoffer p).buffers = s.buffers := rfl
@[simp] theorem State.buffer_reoffer (x : CursorId) : (s.reoffer p).buffer x = s.buffer x := by
  simp only [State.buffer, State.reoffer_buffers]
@[simp] theorem State.reoffer_slots : (s.reoffer p).slots = s.slots := rfl
@[simp] theorem State.slot_reoffer (x : CursorId) : (s.reoffer p).slot x = s.slot x := by
  simp only [State.slot, State.reoffer_slots]
@[simp] theorem State.reoffer_fillList : (s.reoffer p).fillList = s.fillList := rfl
@[simp] theorem State.reoffer_postQueue : (s.reoffer p).postQueue = s.postQueue := rfl
@[simp] theorem State.reoffer_tags : (s.reoffer p).tags = s.tags := rfl
@[simp] theorem State.tag_reoffer (u : TagNo) : (s.reoffer p).tag u = s.tag u := by
  simp only [State.tag, State.reoffer_tags]
@[simp] theorem State.reoffer_alternation : (s.reoffer p).alternation = s.alternation := rfl
@[simp] theorem State.reoffer_memRequest : (s.reoffer p).memRequest = s.memRequest := rfl
@[simp] theorem State.reoffer_respChannel : (s.reoffer p).respChannel = s.respChannel := rfl
@[simp] theorem State.reoffer_ports : (s.reoffer p).ports = s.ports := rfl
@[simp] theorem State.port_reoffer (q : Port) : (s.reoffer p).port q = s.port q := by
  simp only [State.port, State.reoffer_ports]
@[simp] theorem State.reoffer_notices : (s.reoffer p).notices = s.notices := rfl
@[simp] theorem State.noticeQueue_reoffer (q : Port) : (s.reoffer p).noticeQueue q = s.noticeQueue q := by
  simp only [State.noticeQueue, State.reoffer_notices]
@[simp] theorem State.reoffer_freeCount : (s.reoffer p).freeCount = s.freeCount := rfl

end reoffer

section emptyStaging

variable (s : State) (p : Port)

@[simp] theorem State.emptyStaging_dt : (s.emptyStaging p).dt = s.dt := rfl
@[simp] theorem State.desc_emptyStaging (S : Seg) : (s.emptyStaging p).desc S = s.desc S := by
  simp only [State.desc, State.emptyStaging_dt]
@[simp] theorem State.emptyStaging_cursors : (s.emptyStaging p).cursors = s.cursors := rfl
@[simp] theorem State.cursor_emptyStaging (x : CursorId) : (s.emptyStaging p).cursor x = s.cursor x := by
  simp only [State.cursor, State.emptyStaging_cursors]
@[simp] theorem State.emptyStaging_mapQueues : (s.emptyStaging p).mapQueues = s.mapQueues := rfl
@[simp] theorem State.mapQueue_emptyStaging (q : Port) : (s.emptyStaging p).mapQueue q = s.mapQueue q := by
  simp only [State.mapQueue, State.emptyStaging_mapQueues]
@[simp] theorem State.emptyStaging_markHigh : (s.emptyStaging p).markHigh = s.markHigh := rfl
@[simp] theorem State.emptyStaging_markLow : (s.emptyStaging p).markLow = s.markLow := rfl
@[simp] theorem State.emptyStaging_ctxStacks : (s.emptyStaging p).ctxStacks = s.ctxStacks := rfl
@[simp] theorem State.stack_emptyStaging (q : Port) : (s.emptyStaging p).stack q = s.stack q := by
  simp only [State.stack, State.emptyStaging_ctxStacks]
@[simp] theorem State.emptyStaging_buffers : (s.emptyStaging p).buffers = s.buffers := rfl
@[simp] theorem State.buffer_emptyStaging (x : CursorId) : (s.emptyStaging p).buffer x = s.buffer x := by
  simp only [State.buffer, State.emptyStaging_buffers]
@[simp] theorem State.emptyStaging_slots : (s.emptyStaging p).slots = s.slots := rfl
@[simp] theorem State.slot_emptyStaging (x : CursorId) : (s.emptyStaging p).slot x = s.slot x := by
  simp only [State.slot, State.emptyStaging_slots]
@[simp] theorem State.emptyStaging_fillList : (s.emptyStaging p).fillList = s.fillList := rfl
@[simp] theorem State.emptyStaging_postQueue : (s.emptyStaging p).postQueue = s.postQueue := rfl
@[simp] theorem State.emptyStaging_tags : (s.emptyStaging p).tags = s.tags := rfl
@[simp] theorem State.tag_emptyStaging (u : TagNo) : (s.emptyStaging p).tag u = s.tag u := by
  simp only [State.tag, State.emptyStaging_tags]
@[simp] theorem State.emptyStaging_alternation : (s.emptyStaging p).alternation = s.alternation := rfl
@[simp] theorem State.emptyStaging_memRequest : (s.emptyStaging p).memRequest = s.memRequest := rfl
@[simp] theorem State.emptyStaging_respChannel : (s.emptyStaging p).respChannel = s.respChannel := rfl
@[simp] theorem State.emptyStaging_notices : (s.emptyStaging p).notices = s.notices := rfl
@[simp] theorem State.noticeQueue_emptyStaging (q : Port) : (s.emptyStaging p).noticeQueue q = s.noticeQueue q := by
  simp only [State.noticeQueue, State.emptyStaging_notices]
@[simp] theorem State.emptyStaging_links : (s.emptyStaging p).links = s.links := rfl
@[simp] theorem State.link_emptyStaging (q : Port) : (s.emptyStaging p).link q = s.link q := by
  simp only [State.link, State.emptyStaging_links]
@[simp] theorem State.emptyStaging_freeCount : (s.emptyStaging p).freeCount = s.freeCount := rfl
@[simp] theorem State.emptyStaging_pending : (s.emptyStaging p).pending = s.pending := rfl

end emptyStaging

section notifyRevoked

variable (s : State) (A : Seg) (n m : Nat) (p : Port)

@[simp] theorem State.notifyRevoked_dt : (s.notifyRevoked A n m p).dt = s.dt := by
  unfold State.notifyRevoked; split <;> simp
@[simp] theorem State.desc_notifyRevoked (S : Seg) : (s.notifyRevoked A n m p).desc S = s.desc S := by
  simp only [State.desc, State.notifyRevoked_dt]
@[simp] theorem State.notifyRevoked_cursors : (s.notifyRevoked A n m p).cursors = s.cursors := by
  unfold State.notifyRevoked; split <;> simp
@[simp] theorem State.cursor_notifyRevoked (x : CursorId) : (s.notifyRevoked A n m p).cursor x = s.cursor x := by
  simp only [State.cursor, State.notifyRevoked_cursors]
@[simp] theorem State.notifyRevoked_mapQueues : (s.notifyRevoked A n m p).mapQueues = s.mapQueues := by
  unfold State.notifyRevoked; split <;> simp
@[simp] theorem State.mapQueue_notifyRevoked (q : Port) : (s.notifyRevoked A n m p).mapQueue q = s.mapQueue q := by
  simp only [State.mapQueue, State.notifyRevoked_mapQueues]
@[simp] theorem State.notifyRevoked_markHigh : (s.notifyRevoked A n m p).markHigh = s.markHigh := by
  unfold State.notifyRevoked; split <;> simp
@[simp] theorem State.notifyRevoked_markLow : (s.notifyRevoked A n m p).markLow = s.markLow := by
  unfold State.notifyRevoked; split <;> simp
@[simp] theorem State.notifyRevoked_ctxStacks : (s.notifyRevoked A n m p).ctxStacks = s.ctxStacks := by
  unfold State.notifyRevoked; split <;> simp
@[simp] theorem State.stack_notifyRevoked (q : Port) : (s.notifyRevoked A n m p).stack q = s.stack q := by
  simp only [State.stack, State.notifyRevoked_ctxStacks]
@[simp] theorem State.notifyRevoked_buffers : (s.notifyRevoked A n m p).buffers = s.buffers := by
  unfold State.notifyRevoked; split <;> simp
@[simp] theorem State.buffer_notifyRevoked (x : CursorId) : (s.notifyRevoked A n m p).buffer x = s.buffer x := by
  simp only [State.buffer, State.notifyRevoked_buffers]
@[simp] theorem State.notifyRevoked_slots : (s.notifyRevoked A n m p).slots = s.slots := by
  unfold State.notifyRevoked; split <;> simp
@[simp] theorem State.slot_notifyRevoked (x : CursorId) : (s.notifyRevoked A n m p).slot x = s.slot x := by
  simp only [State.slot, State.notifyRevoked_slots]
@[simp] theorem State.notifyRevoked_fillList : (s.notifyRevoked A n m p).fillList = s.fillList := by
  unfold State.notifyRevoked; split <;> simp
@[simp] theorem State.notifyRevoked_postQueue : (s.notifyRevoked A n m p).postQueue = s.postQueue := by
  unfold State.notifyRevoked; split <;> simp
@[simp] theorem State.notifyRevoked_tags : (s.notifyRevoked A n m p).tags = s.tags := by
  unfold State.notifyRevoked; split <;> simp
@[simp] theorem State.tag_notifyRevoked (u : TagNo) : (s.notifyRevoked A n m p).tag u = s.tag u := by
  simp only [State.tag, State.notifyRevoked_tags]
@[simp] theorem State.notifyRevoked_alternation : (s.notifyRevoked A n m p).alternation = s.alternation := by
  unfold State.notifyRevoked; split <;> simp
@[simp] theorem State.notifyRevoked_memRequest : (s.notifyRevoked A n m p).memRequest = s.memRequest := by
  unfold State.notifyRevoked; split <;> simp
@[simp] theorem State.notifyRevoked_respChannel : (s.notifyRevoked A n m p).respChannel = s.respChannel := by
  unfold State.notifyRevoked; split <;> simp
@[simp] theorem State.notifyRevoked_ports : (s.notifyRevoked A n m p).ports = s.ports := by
  unfold State.notifyRevoked; split <;> simp
@[simp] theorem State.port_notifyRevoked (q : Port) : (s.notifyRevoked A n m p).port q = s.port q := by
  simp only [State.port, State.notifyRevoked_ports]
@[simp] theorem State.notifyRevoked_links : (s.notifyRevoked A n m p).links = s.links := by
  unfold State.notifyRevoked; split <;> simp
@[simp] theorem State.link_notifyRevoked (q : Port) : (s.notifyRevoked A n m p).link q = s.link q := by
  simp only [State.link, State.notifyRevoked_links]
@[simp] theorem State.notifyRevoked_freeCount : (s.notifyRevoked A n m p).freeCount = s.freeCount := by
  unfold State.notifyRevoked; split <;> simp
@[simp] theorem State.notifyRevoked_pending : (s.notifyRevoked A n m p).pending = s.pending := by
  unfold State.notifyRevoked; split <;> simp

end notifyRevoked

section notifyForced

variable (s : State) (A : Seg) (d : Descriptor)

@[simp] theorem State.notifyForced_dt : (s.notifyForced A d).dt = s.dt := by
  unfold State.notifyForced; split <;> simp
@[simp] theorem State.desc_notifyForced (S : Seg) : (s.notifyForced A d).desc S = s.desc S := by
  simp only [State.desc, State.notifyForced_dt]
@[simp] theorem State.notifyForced_cursors : (s.notifyForced A d).cursors = s.cursors := by
  unfold State.notifyForced; split <;> simp
@[simp] theorem State.cursor_notifyForced (x : CursorId) : (s.notifyForced A d).cursor x = s.cursor x := by
  simp only [State.cursor, State.notifyForced_cursors]
@[simp] theorem State.notifyForced_mapQueues : (s.notifyForced A d).mapQueues = s.mapQueues := by
  unfold State.notifyForced; split <;> simp
@[simp] theorem State.mapQueue_notifyForced (q : Port) : (s.notifyForced A d).mapQueue q = s.mapQueue q := by
  simp only [State.mapQueue, State.notifyForced_mapQueues]
@[simp] theorem State.notifyForced_markHigh : (s.notifyForced A d).markHigh = s.markHigh := by
  unfold State.notifyForced; split <;> simp
@[simp] theorem State.notifyForced_markLow : (s.notifyForced A d).markLow = s.markLow := by
  unfold State.notifyForced; split <;> simp
@[simp] theorem State.notifyForced_ctxStacks : (s.notifyForced A d).ctxStacks = s.ctxStacks := by
  unfold State.notifyForced; split <;> simp
@[simp] theorem State.stack_notifyForced (q : Port) : (s.notifyForced A d).stack q = s.stack q := by
  simp only [State.stack, State.notifyForced_ctxStacks]
@[simp] theorem State.notifyForced_buffers : (s.notifyForced A d).buffers = s.buffers := by
  unfold State.notifyForced; split <;> simp
@[simp] theorem State.buffer_notifyForced (x : CursorId) : (s.notifyForced A d).buffer x = s.buffer x := by
  simp only [State.buffer, State.notifyForced_buffers]
@[simp] theorem State.notifyForced_slots : (s.notifyForced A d).slots = s.slots := by
  unfold State.notifyForced; split <;> simp
@[simp] theorem State.slot_notifyForced (x : CursorId) : (s.notifyForced A d).slot x = s.slot x := by
  simp only [State.slot, State.notifyForced_slots]
@[simp] theorem State.notifyForced_fillList : (s.notifyForced A d).fillList = s.fillList := by
  unfold State.notifyForced; split <;> simp
@[simp] theorem State.notifyForced_postQueue : (s.notifyForced A d).postQueue = s.postQueue := by
  unfold State.notifyForced; split <;> simp
@[simp] theorem State.notifyForced_tags : (s.notifyForced A d).tags = s.tags := by
  unfold State.notifyForced; split <;> simp
@[simp] theorem State.tag_notifyForced (u : TagNo) : (s.notifyForced A d).tag u = s.tag u := by
  simp only [State.tag, State.notifyForced_tags]
@[simp] theorem State.notifyForced_alternation : (s.notifyForced A d).alternation = s.alternation := by
  unfold State.notifyForced; split <;> simp
@[simp] theorem State.notifyForced_memRequest : (s.notifyForced A d).memRequest = s.memRequest := by
  unfold State.notifyForced; split <;> simp
@[simp] theorem State.notifyForced_respChannel : (s.notifyForced A d).respChannel = s.respChannel := by
  unfold State.notifyForced; split <;> simp
@[simp] theorem State.notifyForced_ports : (s.notifyForced A d).ports = s.ports := by
  unfold State.notifyForced; split <;> simp
@[simp] theorem State.port_notifyForced (q : Port) : (s.notifyForced A d).port q = s.port q := by
  simp only [State.port, State.notifyForced_ports]
@[simp] theorem State.notifyForced_links : (s.notifyForced A d).links = s.links := by
  unfold State.notifyForced; split <;> simp
@[simp] theorem State.link_notifyForced (q : Port) : (s.notifyForced A d).link q = s.link q := by
  simp only [State.link, State.notifyForced_links]
@[simp] theorem State.notifyForced_freeCount : (s.notifyForced A d).freeCount = s.freeCount := by
  unfold State.notifyForced; split <;> simp
@[simp] theorem State.notifyForced_pending : (s.notifyForced A d).pending = s.pending := by
  unfold State.notifyForced; split <;> simp

end notifyForced

section setMark

variable (s : State) (l : Priority) (p : Port)

@[simp] theorem State.setMark_dt : (s.setMark l p).dt = s.dt := by
  unfold State.setMark; split <;> rfl
@[simp] theorem State.desc_setMark (S : Seg) : (s.setMark l p).desc S = s.desc S := by
  simp only [State.desc, State.setMark_dt]
@[simp] theorem State.setMark_cursors : (s.setMark l p).cursors = s.cursors := by
  unfold State.setMark; split <;> rfl
@[simp] theorem State.cursor_setMark (x : CursorId) : (s.setMark l p).cursor x = s.cursor x := by
  simp only [State.cursor, State.setMark_cursors]
@[simp] theorem State.setMark_mapQueues : (s.setMark l p).mapQueues = s.mapQueues := by
  unfold State.setMark; split <;> rfl
@[simp] theorem State.mapQueue_setMark (q : Port) : (s.setMark l p).mapQueue q = s.mapQueue q := by
  simp only [State.mapQueue, State.setMark_mapQueues]
@[simp] theorem State.setMark_ctxStacks : (s.setMark l p).ctxStacks = s.ctxStacks := by
  unfold State.setMark; split <;> rfl
@[simp] theorem State.stack_setMark (q : Port) : (s.setMark l p).stack q = s.stack q := by
  simp only [State.stack, State.setMark_ctxStacks]
@[simp] theorem State.setMark_buffers : (s.setMark l p).buffers = s.buffers := by
  unfold State.setMark; split <;> rfl
@[simp] theorem State.buffer_setMark (x : CursorId) : (s.setMark l p).buffer x = s.buffer x := by
  simp only [State.buffer, State.setMark_buffers]
@[simp] theorem State.setMark_slots : (s.setMark l p).slots = s.slots := by
  unfold State.setMark; split <;> rfl
@[simp] theorem State.slot_setMark (x : CursorId) : (s.setMark l p).slot x = s.slot x := by
  simp only [State.slot, State.setMark_slots]
@[simp] theorem State.setMark_fillList : (s.setMark l p).fillList = s.fillList := by
  unfold State.setMark; split <;> rfl
@[simp] theorem State.setMark_postQueue : (s.setMark l p).postQueue = s.postQueue := by
  unfold State.setMark; split <;> rfl
@[simp] theorem State.setMark_tags : (s.setMark l p).tags = s.tags := by
  unfold State.setMark; split <;> rfl
@[simp] theorem State.tag_setMark (u : TagNo) : (s.setMark l p).tag u = s.tag u := by
  simp only [State.tag, State.setMark_tags]
@[simp] theorem State.setMark_alternation : (s.setMark l p).alternation = s.alternation := by
  unfold State.setMark; split <;> rfl
@[simp] theorem State.setMark_memRequest : (s.setMark l p).memRequest = s.memRequest := by
  unfold State.setMark; split <;> rfl
@[simp] theorem State.setMark_respChannel : (s.setMark l p).respChannel = s.respChannel := by
  unfold State.setMark; split <;> rfl
@[simp] theorem State.setMark_ports : (s.setMark l p).ports = s.ports := by
  unfold State.setMark; split <;> rfl
@[simp] theorem State.port_setMark (q : Port) : (s.setMark l p).port q = s.port q := by
  simp only [State.port, State.setMark_ports]
@[simp] theorem State.setMark_notices : (s.setMark l p).notices = s.notices := by
  unfold State.setMark; split <;> rfl
@[simp] theorem State.noticeQueue_setMark (q : Port) : (s.setMark l p).noticeQueue q = s.noticeQueue q := by
  simp only [State.noticeQueue, State.setMark_notices]
@[simp] theorem State.setMark_links : (s.setMark l p).links = s.links := by
  unfold State.setMark; split <;> rfl
@[simp] theorem State.link_setMark (q : Port) : (s.setMark l p).link q = s.link q := by
  simp only [State.link, State.setMark_links]
@[simp] theorem State.setMark_freeCount : (s.setMark l p).freeCount = s.freeCount := by
  unfold State.setMark; split <;> rfl
@[simp] theorem State.setMark_pending : (s.setMark l p).pending = s.pending := by
  unfold State.setMark; split <;> rfl

end setMark

section settle

variable (s : State) (id : CursorId) (o : Origin) (w : Walk)

@[simp] theorem State.settle_mapQueues : (s.settle id o w).mapQueues = s.mapQueues := by
  unfold State.settle; dsimp only; split <;> simp
@[simp] theorem State.mapQueue_settle (q : Port) : (s.settle id o w).mapQueue q = s.mapQueue q := by
  simp only [State.mapQueue, State.settle_mapQueues]
@[simp] theorem State.settle_markHigh : (s.settle id o w).markHigh = s.markHigh := by
  unfold State.settle; dsimp only; split <;> simp
@[simp] theorem State.settle_markLow : (s.settle id o w).markLow = s.markLow := by
  unfold State.settle; dsimp only; split <;> simp
@[simp] theorem State.settle_ctxStacks : (s.settle id o w).ctxStacks = s.ctxStacks := by
  unfold State.settle; dsimp only; split <;> simp
@[simp] theorem State.stack_settle (q : Port) : (s.settle id o w).stack q = s.stack q := by
  simp only [State.stack, State.settle_ctxStacks]
@[simp] theorem State.settle_buffers : (s.settle id o w).buffers = s.buffers := by
  unfold State.settle; dsimp only; split <;> simp
@[simp] theorem State.buffer_settle (x : CursorId) : (s.settle id o w).buffer x = s.buffer x := by
  simp only [State.buffer, State.settle_buffers]
@[simp] theorem State.settle_slots : (s.settle id o w).slots = s.slots := by
  unfold State.settle; dsimp only; split <;> simp
@[simp] theorem State.slot_settle (x : CursorId) : (s.settle id o w).slot x = s.slot x := by
  simp only [State.slot, State.settle_slots]
@[simp] theorem State.settle_fillList : (s.settle id o w).fillList = s.fillList := by
  unfold State.settle; dsimp only; split <;> simp
@[simp] theorem State.settle_postQueue : (s.settle id o w).postQueue = s.postQueue := by
  unfold State.settle; dsimp only; split <;> simp
@[simp] theorem State.settle_tags : (s.settle id o w).tags = s.tags := by
  unfold State.settle; dsimp only; split <;> simp
@[simp] theorem State.tag_settle (u : TagNo) : (s.settle id o w).tag u = s.tag u := by
  simp only [State.tag, State.settle_tags]
@[simp] theorem State.settle_alternation : (s.settle id o w).alternation = s.alternation := by
  unfold State.settle; dsimp only; split <;> simp
@[simp] theorem State.settle_memRequest : (s.settle id o w).memRequest = s.memRequest := by
  unfold State.settle; dsimp only; split <;> simp
@[simp] theorem State.settle_respChannel : (s.settle id o w).respChannel = s.respChannel := by
  unfold State.settle; dsimp only; split <;> simp
@[simp] theorem State.settle_ports : (s.settle id o w).ports = s.ports := by
  unfold State.settle; dsimp only; split <;> simp
@[simp] theorem State.port_settle (q : Port) : (s.settle id o w).port q = s.port q := by
  simp only [State.port, State.settle_ports]
@[simp] theorem State.settle_links : (s.settle id o w).links = s.links := by
  unfold State.settle; dsimp only; split <;> simp
@[simp] theorem State.link_settle (q : Port) : (s.settle id o w).link q = s.link q := by
  simp only [State.link, State.settle_links]
@[simp] theorem State.settle_freeCount : (s.settle id o w).freeCount = s.freeCount := by
  unfold State.settle; dsimp only; split <;> simp
@[simp] theorem State.settle_pending : (s.settle id o w).pending = s.pending := by
  unfold State.settle; dsimp only; split <;> simp

end settle

section place

variable (s : State) (id : CursorId)

@[simp] theorem State.place_mapQueues : (s.place id).mapQueues = s.mapQueues := by
  unfold State.place; dsimp only; split <;> simp
@[simp] theorem State.mapQueue_place (q : Port) : (s.place id).mapQueue q = s.mapQueue q := by
  simp only [State.mapQueue, State.place_mapQueues]
@[simp] theorem State.place_markHigh : (s.place id).markHigh = s.markHigh := by
  unfold State.place; dsimp only; split <;> simp
@[simp] theorem State.place_markLow : (s.place id).markLow = s.markLow := by
  unfold State.place; dsimp only; split <;> simp
@[simp] theorem State.place_ctxStacks : (s.place id).ctxStacks = s.ctxStacks := by
  unfold State.place; dsimp only; split <;> simp
@[simp] theorem State.stack_place (q : Port) : (s.place id).stack q = s.stack q := by
  simp only [State.stack, State.place_ctxStacks]
@[simp] theorem State.place_buffers : (s.place id).buffers = s.buffers := by
  unfold State.place; dsimp only; split <;> simp
@[simp] theorem State.buffer_place (x : CursorId) : (s.place id).buffer x = s.buffer x := by
  simp only [State.buffer, State.place_buffers]
@[simp] theorem State.place_slots : (s.place id).slots = s.slots := by
  unfold State.place; dsimp only; split <;> simp
@[simp] theorem State.slot_place (x : CursorId) : (s.place id).slot x = s.slot x := by
  simp only [State.slot, State.place_slots]
@[simp] theorem State.place_fillList : (s.place id).fillList = s.fillList := by
  unfold State.place; dsimp only; split <;> simp
@[simp] theorem State.place_postQueue : (s.place id).postQueue = s.postQueue := by
  unfold State.place; dsimp only; split <;> simp
@[simp] theorem State.place_tags : (s.place id).tags = s.tags := by
  unfold State.place; dsimp only; split <;> simp
@[simp] theorem State.tag_place (u : TagNo) : (s.place id).tag u = s.tag u := by
  simp only [State.tag, State.place_tags]
@[simp] theorem State.place_alternation : (s.place id).alternation = s.alternation := by
  unfold State.place; dsimp only; split <;> simp
@[simp] theorem State.place_memRequest : (s.place id).memRequest = s.memRequest := by
  unfold State.place; dsimp only; split <;> simp
@[simp] theorem State.place_respChannel : (s.place id).respChannel = s.respChannel := by
  unfold State.place; dsimp only; split <;> simp
@[simp] theorem State.place_ports : (s.place id).ports = s.ports := by
  unfold State.place; dsimp only; split <;> simp
@[simp] theorem State.port_place (q : Port) : (s.place id).port q = s.port q := by
  simp only [State.port, State.place_ports]
@[simp] theorem State.place_links : (s.place id).links = s.links := by
  unfold State.place; dsimp only; split <;> simp
@[simp] theorem State.link_place (q : Port) : (s.place id).link q = s.link q := by
  simp only [State.link, State.place_links]
@[simp] theorem State.place_freeCount : (s.place id).freeCount = s.freeCount := by
  unfold State.place; dsimp only; split <;> simp
@[simp] theorem State.place_pending : (s.place id).pending = s.pending := by
  unfold State.place; dsimp only; split <;> simp

end place

section fillSlot

variable (s : State) (id : CursorId) (f : AccessSize → ReadResult)

@[simp] theorem State.fillSlot_dt : (s.fillSlot id f).dt = s.dt := by
  unfold State.fillSlot; split <;> simp
@[simp] theorem State.desc_fillSlot (S : Seg) : (s.fillSlot id f).desc S = s.desc S := by
  simp only [State.desc, State.fillSlot_dt]
@[simp] theorem State.fillSlot_cursors : (s.fillSlot id f).cursors = s.cursors := by
  unfold State.fillSlot; split <;> simp
@[simp] theorem State.cursor_fillSlot (x : CursorId) : (s.fillSlot id f).cursor x = s.cursor x := by
  simp only [State.cursor, State.fillSlot_cursors]
@[simp] theorem State.fillSlot_mapQueues : (s.fillSlot id f).mapQueues = s.mapQueues := by
  unfold State.fillSlot; split <;> simp
@[simp] theorem State.mapQueue_fillSlot (q : Port) : (s.fillSlot id f).mapQueue q = s.mapQueue q := by
  simp only [State.mapQueue, State.fillSlot_mapQueues]
@[simp] theorem State.fillSlot_markHigh : (s.fillSlot id f).markHigh = s.markHigh := by
  unfold State.fillSlot; split <;> simp
@[simp] theorem State.fillSlot_markLow : (s.fillSlot id f).markLow = s.markLow := by
  unfold State.fillSlot; split <;> simp
@[simp] theorem State.fillSlot_ctxStacks : (s.fillSlot id f).ctxStacks = s.ctxStacks := by
  unfold State.fillSlot; split <;> simp
@[simp] theorem State.stack_fillSlot (q : Port) : (s.fillSlot id f).stack q = s.stack q := by
  simp only [State.stack, State.fillSlot_ctxStacks]
@[simp] theorem State.fillSlot_buffers : (s.fillSlot id f).buffers = s.buffers := by
  unfold State.fillSlot; split <;> simp
@[simp] theorem State.buffer_fillSlot (x : CursorId) : (s.fillSlot id f).buffer x = s.buffer x := by
  simp only [State.buffer, State.fillSlot_buffers]
@[simp] theorem State.fillSlot_fillList : (s.fillSlot id f).fillList = s.fillList := by
  unfold State.fillSlot; split <;> simp
@[simp] theorem State.fillSlot_postQueue : (s.fillSlot id f).postQueue = s.postQueue := by
  unfold State.fillSlot; split <;> simp
@[simp] theorem State.fillSlot_tags : (s.fillSlot id f).tags = s.tags := by
  unfold State.fillSlot; split <;> simp
@[simp] theorem State.tag_fillSlot (u : TagNo) : (s.fillSlot id f).tag u = s.tag u := by
  simp only [State.tag, State.fillSlot_tags]
@[simp] theorem State.fillSlot_alternation : (s.fillSlot id f).alternation = s.alternation := by
  unfold State.fillSlot; split <;> simp
@[simp] theorem State.fillSlot_memRequest : (s.fillSlot id f).memRequest = s.memRequest := by
  unfold State.fillSlot; split <;> simp
@[simp] theorem State.fillSlot_respChannel : (s.fillSlot id f).respChannel = s.respChannel := by
  unfold State.fillSlot; split <;> simp
@[simp] theorem State.fillSlot_ports : (s.fillSlot id f).ports = s.ports := by
  unfold State.fillSlot; split <;> simp
@[simp] theorem State.port_fillSlot (q : Port) : (s.fillSlot id f).port q = s.port q := by
  simp only [State.port, State.fillSlot_ports]
@[simp] theorem State.fillSlot_notices : (s.fillSlot id f).notices = s.notices := by
  unfold State.fillSlot; split <;> simp
@[simp] theorem State.noticeQueue_fillSlot (q : Port) : (s.fillSlot id f).noticeQueue q = s.noticeQueue q := by
  simp only [State.noticeQueue, State.fillSlot_notices]
@[simp] theorem State.fillSlot_links : (s.fillSlot id f).links = s.links := by
  unfold State.fillSlot; split <;> simp
@[simp] theorem State.link_fillSlot (q : Port) : (s.fillSlot id f).link q = s.link q := by
  simp only [State.link, State.fillSlot_links]
@[simp] theorem State.fillSlot_freeCount : (s.fillSlot id f).freeCount = s.freeCount := by
  unfold State.fillSlot; split <;> simp
@[simp] theorem State.fillSlot_pending : (s.fillSlot id f).pending = s.pending := by
  unfold State.fillSlot; split <;> simp

end fillSlot

section fillArrival

variable (s : State) (id : CursorId) (d : Delivery)

@[simp] theorem State.fillArrival_dt : (s.fillArrival id d).dt = s.dt := by
  unfold State.fillArrival State.voidArrival State.liveArrival; repeat' split
  all_goals simp
@[simp] theorem State.desc_fillArrival (S : Seg) : (s.fillArrival id d).desc S = s.desc S := by
  simp only [State.desc, State.fillArrival_dt]
@[simp] theorem State.fillArrival_cursors : (s.fillArrival id d).cursors = s.cursors := by
  unfold State.fillArrival State.voidArrival State.liveArrival; repeat' split
  all_goals simp
@[simp] theorem State.cursor_fillArrival (x : CursorId) : (s.fillArrival id d).cursor x = s.cursor x := by
  simp only [State.cursor, State.fillArrival_cursors]
@[simp] theorem State.fillArrival_mapQueues : (s.fillArrival id d).mapQueues = s.mapQueues := by
  unfold State.fillArrival State.voidArrival State.liveArrival; repeat' split
  all_goals simp
@[simp] theorem State.mapQueue_fillArrival (q : Port) : (s.fillArrival id d).mapQueue q = s.mapQueue q := by
  simp only [State.mapQueue, State.fillArrival_mapQueues]
@[simp] theorem State.fillArrival_markHigh : (s.fillArrival id d).markHigh = s.markHigh := by
  unfold State.fillArrival State.voidArrival State.liveArrival; repeat' split
  all_goals simp
@[simp] theorem State.fillArrival_markLow : (s.fillArrival id d).markLow = s.markLow := by
  unfold State.fillArrival State.voidArrival State.liveArrival; repeat' split
  all_goals simp
@[simp] theorem State.fillArrival_ctxStacks : (s.fillArrival id d).ctxStacks = s.ctxStacks := by
  unfold State.fillArrival State.voidArrival State.liveArrival; repeat' split
  all_goals simp
@[simp] theorem State.stack_fillArrival (q : Port) : (s.fillArrival id d).stack q = s.stack q := by
  simp only [State.stack, State.fillArrival_ctxStacks]
@[simp] theorem State.fillArrival_postQueue : (s.fillArrival id d).postQueue = s.postQueue := by
  unfold State.fillArrival State.voidArrival State.liveArrival; repeat' split
  all_goals simp
@[simp] theorem State.fillArrival_tags : (s.fillArrival id d).tags = s.tags := by
  unfold State.fillArrival State.voidArrival State.liveArrival; repeat' split
  all_goals simp
@[simp] theorem State.tag_fillArrival (u : TagNo) : (s.fillArrival id d).tag u = s.tag u := by
  simp only [State.tag, State.fillArrival_tags]
@[simp] theorem State.fillArrival_alternation : (s.fillArrival id d).alternation = s.alternation := by
  unfold State.fillArrival State.voidArrival State.liveArrival; repeat' split
  all_goals simp
@[simp] theorem State.fillArrival_memRequest : (s.fillArrival id d).memRequest = s.memRequest := by
  unfold State.fillArrival State.voidArrival State.liveArrival; repeat' split
  all_goals simp
@[simp] theorem State.fillArrival_respChannel : (s.fillArrival id d).respChannel = s.respChannel := by
  unfold State.fillArrival State.voidArrival State.liveArrival; repeat' split
  all_goals simp
@[simp] theorem State.fillArrival_ports : (s.fillArrival id d).ports = s.ports := by
  unfold State.fillArrival State.voidArrival State.liveArrival; repeat' split
  all_goals simp
@[simp] theorem State.port_fillArrival (q : Port) : (s.fillArrival id d).port q = s.port q := by
  simp only [State.port, State.fillArrival_ports]
@[simp] theorem State.fillArrival_notices : (s.fillArrival id d).notices = s.notices := by
  unfold State.fillArrival State.voidArrival State.liveArrival; repeat' split
  all_goals simp
@[simp] theorem State.noticeQueue_fillArrival (q : Port) : (s.fillArrival id d).noticeQueue q = s.noticeQueue q := by
  simp only [State.noticeQueue, State.fillArrival_notices]
@[simp] theorem State.fillArrival_links : (s.fillArrival id d).links = s.links := by
  unfold State.fillArrival State.voidArrival State.liveArrival; repeat' split
  all_goals simp
@[simp] theorem State.link_fillArrival (q : Port) : (s.fillArrival id d).link q = s.link q := by
  simp only [State.link, State.fillArrival_links]
@[simp] theorem State.fillArrival_freeCount : (s.fillArrival id d).freeCount = s.freeCount := by
  unfold State.fillArrival State.voidArrival State.liveArrival; repeat' split
  all_goals simp
@[simp] theorem State.fillArrival_pending : (s.fillArrival id d).pending = s.pending := by
  unfold State.fillArrival State.voidArrival State.liveArrival; repeat' split
  all_goals simp

end fillArrival

section writeCompletion

variable (s : State) (t : TagNo) (d : Delivery)

@[simp] theorem State.writeCompletion_dt : (s.writeCompletion t d).dt = s.dt := by
  unfold State.writeCompletion State.notifyFailed; dsimp only; repeat' split
  all_goals simp
@[simp] theorem State.desc_writeCompletion (S : Seg) : (s.writeCompletion t d).desc S = s.desc S := by
  simp only [State.desc, State.writeCompletion_dt]
@[simp] theorem State.writeCompletion_cursors : (s.writeCompletion t d).cursors = s.cursors := by
  unfold State.writeCompletion State.notifyFailed; dsimp only; repeat' split
  all_goals simp
@[simp] theorem State.cursor_writeCompletion (x : CursorId) : (s.writeCompletion t d).cursor x = s.cursor x := by
  simp only [State.cursor, State.writeCompletion_cursors]
@[simp] theorem State.writeCompletion_mapQueues : (s.writeCompletion t d).mapQueues = s.mapQueues := by
  unfold State.writeCompletion State.notifyFailed; dsimp only; repeat' split
  all_goals simp
@[simp] theorem State.mapQueue_writeCompletion (q : Port) : (s.writeCompletion t d).mapQueue q = s.mapQueue q := by
  simp only [State.mapQueue, State.writeCompletion_mapQueues]
@[simp] theorem State.writeCompletion_markHigh : (s.writeCompletion t d).markHigh = s.markHigh := by
  unfold State.writeCompletion State.notifyFailed; dsimp only; repeat' split
  all_goals simp
@[simp] theorem State.writeCompletion_markLow : (s.writeCompletion t d).markLow = s.markLow := by
  unfold State.writeCompletion State.notifyFailed; dsimp only; repeat' split
  all_goals simp
@[simp] theorem State.writeCompletion_ctxStacks : (s.writeCompletion t d).ctxStacks = s.ctxStacks := by
  unfold State.writeCompletion State.notifyFailed; dsimp only; repeat' split
  all_goals simp
@[simp] theorem State.stack_writeCompletion (q : Port) : (s.writeCompletion t d).stack q = s.stack q := by
  simp only [State.stack, State.writeCompletion_ctxStacks]
@[simp] theorem State.writeCompletion_buffers : (s.writeCompletion t d).buffers = s.buffers := by
  unfold State.writeCompletion State.notifyFailed; dsimp only; repeat' split
  all_goals simp
@[simp] theorem State.buffer_writeCompletion (x : CursorId) : (s.writeCompletion t d).buffer x = s.buffer x := by
  simp only [State.buffer, State.writeCompletion_buffers]
@[simp] theorem State.writeCompletion_slots : (s.writeCompletion t d).slots = s.slots := by
  unfold State.writeCompletion State.notifyFailed; dsimp only; repeat' split
  all_goals simp
@[simp] theorem State.slot_writeCompletion (x : CursorId) : (s.writeCompletion t d).slot x = s.slot x := by
  simp only [State.slot, State.writeCompletion_slots]
@[simp] theorem State.writeCompletion_fillList : (s.writeCompletion t d).fillList = s.fillList := by
  unfold State.writeCompletion State.notifyFailed; dsimp only; repeat' split
  all_goals simp
@[simp] theorem State.writeCompletion_tags : (s.writeCompletion t d).tags = s.tags := by
  unfold State.writeCompletion State.notifyFailed; dsimp only; repeat' split
  all_goals simp
@[simp] theorem State.tag_writeCompletion (u : TagNo) : (s.writeCompletion t d).tag u = s.tag u := by
  simp only [State.tag, State.writeCompletion_tags]
@[simp] theorem State.writeCompletion_alternation : (s.writeCompletion t d).alternation = s.alternation := by
  unfold State.writeCompletion State.notifyFailed; dsimp only; repeat' split
  all_goals simp
@[simp] theorem State.writeCompletion_memRequest : (s.writeCompletion t d).memRequest = s.memRequest := by
  unfold State.writeCompletion State.notifyFailed; dsimp only; repeat' split
  all_goals simp
@[simp] theorem State.writeCompletion_respChannel : (s.writeCompletion t d).respChannel = s.respChannel := by
  unfold State.writeCompletion State.notifyFailed; dsimp only; repeat' split
  all_goals simp
@[simp] theorem State.writeCompletion_ports : (s.writeCompletion t d).ports = s.ports := by
  unfold State.writeCompletion State.notifyFailed; dsimp only; repeat' split
  all_goals simp
@[simp] theorem State.port_writeCompletion (q : Port) : (s.writeCompletion t d).port q = s.port q := by
  simp only [State.port, State.writeCompletion_ports]
@[simp] theorem State.writeCompletion_links : (s.writeCompletion t d).links = s.links := by
  unfold State.writeCompletion State.notifyFailed; dsimp only; repeat' split
  all_goals simp
@[simp] theorem State.link_writeCompletion (q : Port) : (s.writeCompletion t d).link q = s.link q := by
  simp only [State.link, State.writeCompletion_links]
@[simp] theorem State.writeCompletion_freeCount : (s.writeCompletion t d).freeCount = s.freeCount := by
  unfold State.writeCompletion State.notifyFailed; dsimp only; repeat' split
  all_goals simp
@[simp] theorem State.writeCompletion_pending : (s.writeCompletion t d).pending = s.pending := by
  unfold State.writeCompletion State.notifyFailed; dsimp only; repeat' split
  all_goals simp

end writeCompletion

section broadcastReplace

variable (s : State) (A : Seg)

@[simp] theorem State.broadcastReplace_dt : (s.broadcastReplace A).dt = s.dt := rfl
@[simp] theorem State.desc_broadcastReplace (S : Seg) : (s.broadcastReplace A).desc S = s.desc S := rfl
@[simp] theorem State.broadcastReplace_markHigh : (s.broadcastReplace A).markHigh = s.markHigh := rfl
@[simp] theorem State.broadcastReplace_markLow : (s.broadcastReplace A).markLow = s.markLow := rfl
@[simp] theorem State.broadcastReplace_postQueue : (s.broadcastReplace A).postQueue = s.postQueue := rfl
@[simp] theorem State.broadcastReplace_tags : (s.broadcastReplace A).tags = s.tags := rfl
@[simp] theorem State.tag_broadcastReplace (u : TagNo) : (s.broadcastReplace A).tag u = s.tag u := rfl
@[simp] theorem State.broadcastReplace_alternation : (s.broadcastReplace A).alternation = s.alternation := rfl
@[simp] theorem State.broadcastReplace_memRequest : (s.broadcastReplace A).memRequest = s.memRequest := rfl
@[simp] theorem State.broadcastReplace_respChannel : (s.broadcastReplace A).respChannel = s.respChannel := rfl
@[simp] theorem State.broadcastReplace_ports : (s.broadcastReplace A).ports = s.ports := rfl
@[simp] theorem State.port_broadcastReplace (q : Port) : (s.broadcastReplace A).port q = s.port q := rfl
@[simp] theorem State.broadcastReplace_notices : (s.broadcastReplace A).notices = s.notices := rfl
@[simp] theorem State.noticeQueue_broadcastReplace (q : Port) : (s.broadcastReplace A).noticeQueue q = s.noticeQueue q := rfl
@[simp] theorem State.broadcastReplace_links : (s.broadcastReplace A).links = s.links := rfl
@[simp] theorem State.link_broadcastReplace (q : Port) : (s.broadcastReplace A).link q = s.link q := rfl
@[simp] theorem State.broadcastReplace_freeCount : (s.broadcastReplace A).freeCount = s.freeCount := rfl
@[simp] theorem State.broadcastReplace_pending : (s.broadcastReplace A).pending = s.pending := rfl

end broadcastReplace

section broadcastRevoke

variable (s : State) (A : Seg)

@[simp] theorem State.broadcastRevoke_dt : (s.broadcastRevoke A).dt = s.dt := rfl
@[simp] theorem State.desc_broadcastRevoke (S : Seg) : (s.broadcastRevoke A).desc S = s.desc S := rfl
@[simp] theorem State.broadcastRevoke_markHigh : (s.broadcastRevoke A).markHigh = s.markHigh := rfl
@[simp] theorem State.broadcastRevoke_markLow : (s.broadcastRevoke A).markLow = s.markLow := rfl
@[simp] theorem State.broadcastRevoke_postQueue : (s.broadcastRevoke A).postQueue = s.postQueue := rfl
@[simp] theorem State.broadcastRevoke_tags : (s.broadcastRevoke A).tags = s.tags := rfl
@[simp] theorem State.tag_broadcastRevoke (u : TagNo) : (s.broadcastRevoke A).tag u = s.tag u := rfl
@[simp] theorem State.broadcastRevoke_alternation : (s.broadcastRevoke A).alternation = s.alternation := rfl
@[simp] theorem State.broadcastRevoke_memRequest : (s.broadcastRevoke A).memRequest = s.memRequest := rfl
@[simp] theorem State.broadcastRevoke_respChannel : (s.broadcastRevoke A).respChannel = s.respChannel := rfl
@[simp] theorem State.broadcastRevoke_ports : (s.broadcastRevoke A).ports = s.ports := rfl
@[simp] theorem State.port_broadcastRevoke (q : Port) : (s.broadcastRevoke A).port q = s.port q := rfl
@[simp] theorem State.broadcastRevoke_notices : (s.broadcastRevoke A).notices = s.notices := rfl
@[simp] theorem State.noticeQueue_broadcastRevoke (q : Port) : (s.broadcastRevoke A).noticeQueue q = s.noticeQueue q := rfl
@[simp] theorem State.broadcastRevoke_links : (s.broadcastRevoke A).links = s.links := rfl
@[simp] theorem State.link_broadcastRevoke (q : Port) : (s.broadcastRevoke A).link q = s.link q := rfl
@[simp] theorem State.broadcastRevoke_freeCount : (s.broadcastRevoke A).freeCount = s.freeCount := rfl
@[simp] theorem State.broadcastRevoke_pending : (s.broadcastRevoke A).pending = s.pending := rfl

end broadcastRevoke

section sweep

variable (s : State) (e : PostEntry)

@[simp] theorem State.sweep_dt : (s.sweep e).dt = s.dt := rfl
@[simp] theorem State.desc_sweep (S : Seg) : (s.sweep e).desc S = s.desc S := rfl
@[simp] theorem State.sweep_cursors : (s.sweep e).cursors = s.cursors := rfl
@[simp] theorem State.cursor_sweep (x : CursorId) : (s.sweep e).cursor x = s.cursor x := rfl
@[simp] theorem State.sweep_mapQueues : (s.sweep e).mapQueues = s.mapQueues := rfl
@[simp] theorem State.mapQueue_sweep (q : Port) : (s.sweep e).mapQueue q = s.mapQueue q := rfl
@[simp] theorem State.sweep_markHigh : (s.sweep e).markHigh = s.markHigh := rfl
@[simp] theorem State.sweep_markLow : (s.sweep e).markLow = s.markLow := rfl
@[simp] theorem State.sweep_ctxStacks : (s.sweep e).ctxStacks = s.ctxStacks := rfl
@[simp] theorem State.stack_sweep (q : Port) : (s.sweep e).stack q = s.stack q := rfl
@[simp] theorem State.sweep_slots : (s.sweep e).slots = s.slots := rfl
@[simp] theorem State.slot_sweep (x : CursorId) : (s.sweep e).slot x = s.slot x := rfl
@[simp] theorem State.sweep_fillList : (s.sweep e).fillList = s.fillList := rfl
@[simp] theorem State.sweep_postQueue : (s.sweep e).postQueue = s.postQueue := rfl
@[simp] theorem State.sweep_tags : (s.sweep e).tags = s.tags := rfl
@[simp] theorem State.tag_sweep (u : TagNo) : (s.sweep e).tag u = s.tag u := rfl
@[simp] theorem State.sweep_alternation : (s.sweep e).alternation = s.alternation := rfl
@[simp] theorem State.sweep_memRequest : (s.sweep e).memRequest = s.memRequest := rfl
@[simp] theorem State.sweep_respChannel : (s.sweep e).respChannel = s.respChannel := rfl
@[simp] theorem State.sweep_ports : (s.sweep e).ports = s.ports := rfl
@[simp] theorem State.port_sweep (q : Port) : (s.sweep e).port q = s.port q := rfl
@[simp] theorem State.sweep_notices : (s.sweep e).notices = s.notices := rfl
@[simp] theorem State.noticeQueue_sweep (q : Port) : (s.sweep e).noticeQueue q = s.noticeQueue q := rfl
@[simp] theorem State.sweep_links : (s.sweep e).links = s.links := rfl
@[simp] theorem State.link_sweep (q : Port) : (s.sweep e).link q = s.link q := rfl
@[simp] theorem State.sweep_freeCount : (s.sweep e).freeCount = s.freeCount := rfl
@[simp] theorem State.sweep_pending : (s.sweep e).pending = s.pending := rfl

end sweep

/-! ### What each shared operation does -/

/-- A push into a queue with room (R178). -/
theorem NoticeQueue.push_of_room (q : NoticeQueue) (n : Notice) (h : q.items.length < Config.noticeDepth) :
    q.push n = ⟨q.items ++ [n], q.overrun⟩ := by
  simp [NoticeQueue.push, h]

/-- A push into a full queue (R178). -/
theorem NoticeQueue.push_of_full (q : NoticeQueue) (n : Notice) (h : ¬ q.items.length < Config.noticeDepth) :
    q.push n = ⟨q.items, true⟩ := by
  simp [NoticeQueue.push, h]

theorem State.noticeQueue_notify (s : State) (p q : Port) (n : Notice) :
    (s.notify p n).noticeQueue q = if q = p then (s.noticeQueue p).push n else s.noticeQueue q := by
  simp [State.notify]

@[simp] theorem State.noticeQueue_notify_self (s : State) (p : Port) (n : Notice) :
    (s.notify p n).noticeQueue p = (s.noticeQueue p).push n := by
  simp [State.notify]

@[simp] theorem State.noticeQueue_notify_ne (s : State) {p q : Port} (n : Notice) (h : q ≠ p) :
    (s.notify p n).noticeQueue q = s.noticeQueue q := by
  simp [State.noticeQueue_notify, h]

@[simp] theorem State.desc_claim (s : State) (S T : Seg) :
    (s.claim S).desc T = if T = S then { s.desc S with bindCount := (s.desc S).bindCount + 1 } else s.desc T := by
  simp [State.claim]

@[simp] theorem State.desc_release (s : State) (S T : Seg) :
    (s.release S).desc T = if T = S then (s.desc S).released else s.desc T := by
  unfold State.release
  dsimp only
  repeat' split
  all_goals simp_all

/-- The table after a release. -/
theorem State.release_dt (s : State) (S : Seg) : (s.release S).dt = fset s.dt S (s.desc S).released := by
  unfold State.release
  dsimp only
  repeat' split
  all_goals rfl

/-- The notices of a release depend on the table and the notices alone. -/
theorem State.release_notices_congr {s t : State} (hd : s.dt = t.dt) (hn : s.notices = t.notices) (S : Seg) :
    (s.release S).notices = (t.release S).notices := by
  have e : s.desc S = t.desc S := by simp [State.desc, hd]
  unfold State.release
  dsimp only
  rw [e]
  repeat' split
  all_goals simp [State.notify, State.setNotices, State.noticeQueue, State.setDesc, hn]

/-- The notice of a release: RETIRE_COMPLETE(GRACEFUL) to the recorded port when it completes a retirement, and none
else (R23). -/
theorem State.noticeQueue_release (s : State) (S : Seg) (q : Port) :
    (s.release S).noticeQueue q =
      if (s.desc S).completes = true ∧ (s.desc S).retiringPort = some q then
        (s.noticeQueue q).push (.retireComplete S .graceful)
      else s.noticeQueue q := by
  unfold State.release
  dsimp only
  split
  · split
    · rename_i r hr
      by_cases h : r = q
      · subst h; simp_all
      · have h' : q ≠ r := fun e => h e.symm
        simp_all
    · simp_all
  · simp_all

@[simp] theorem State.mapQueue_joinQueue (s : State) (id : CursorId) (q : Port) :
    (s.joinQueue id).mapQueue q = if q = id.port then s.mapQueue id.port ++ [id.cursor] else s.mapQueue q := by
  simp [State.joinQueue]

@[simp] theorem State.mapQueue_leaveQueue (s : State) (id : CursorId) (q : Port) :
    (s.leaveQueue id).mapQueue q =
      if q = id.port then (s.mapQueue id.port).filter (fun c => decide (c ≠ id.cursor)) else s.mapQueue q := by
  simp [State.leaveQueue]

@[simp] theorem State.slot_cancelRead (s : State) (id x : CursorId) (k : Bool) :
    (s.cancelRead id k).slot x = if x = id then .empty else s.slot x := by
  simp [State.cancelRead]

@[simp] theorem State.buffer_cancelRead (s : State) (id x : CursorId) (k : Bool) :
    (s.cancelRead id k).buffer x = if x = id then (s.buffer id).cancelled k else s.buffer x := by
  simp [State.cancelRead]

@[simp] theorem State.fillList_cancelRead (s : State) (id : CursorId) (k : Bool) :
    (s.cancelRead id k).fillList = s.fillList.filter (fun x => decide (x ≠ id)) := rfl

/-! The broadcasts and the sweep, at each cursor and each stack (R18, R19, R25, R124). -/

@[simp] theorem State.cursor_broadcastReplace (s : State) (S : Seg) (id : CursorId) :
    (s.broadcastReplace S).cursor id =
      if (s.cursor id).replacedBy S then { s.cursor id with state := .revalidating } else s.cursor id := by
  unfold State.broadcastReplace State.cursor
  simp only [Grid.get_tabulate]

@[simp] theorem State.mapQueue_broadcastReplace (s : State) (S : Seg) (q : Port) :
    (s.broadcastReplace S).mapQueue q =
      s.mapQueue q ++ allCursorNos.filter (fun c => (s.cursor ⟨q, c⟩).replacedBy S) := by
  unfold State.broadcastReplace State.mapQueue
  simp only [fget_ofFn]

@[simp] theorem State.stack_broadcastReplace (s : State) (S : Seg) (q : Port) :
    (s.broadcastReplace S).stack q = (s.stack q).map (fun x => x.replaced S) := by
  unfold State.broadcastReplace State.stack
  simp only [fget_ofFn]

@[simp] theorem State.slot_broadcastReplace (s : State) (S : Seg) (id : CursorId) :
    (s.broadcastReplace S).slot id = if (s.cursor id).replacedBy S then .empty else s.slot id := by
  unfold State.broadcastReplace State.slot
  simp only [Grid.get_tabulate]

@[simp] theorem State.buffer_broadcastReplace (s : State) (S : Seg) (id : CursorId) :
    (s.broadcastReplace S).buffer id =
      if (s.cursor id).replacedBy S then (s.buffer id).cancelled false else s.buffer id := by
  unfold State.broadcastReplace State.buffer
  simp only [Grid.get_tabulate]

@[simp] theorem State.broadcastReplace_fillList (s : State) (S : Seg) :
    (s.broadcastReplace S).fillList = s.fillList.filter (fun id => !(s.cursor id).replacedBy S) := rfl

@[simp] theorem State.cursor_broadcastRevoke (s : State) (S : Seg) (id : CursorId) :
    (s.broadcastRevoke S).cursor id = (s.cursor id).revoked S := by
  unfold State.broadcastRevoke State.cursor
  simp only [Grid.get_tabulate]

@[simp] theorem State.mapQueue_broadcastRevoke (s : State) (S : Seg) (q : Port) :
    (s.broadcastRevoke S).mapQueue q = (s.mapQueue q).filter (fun c => !(s.cursor ⟨q, c⟩).holds S) := by
  unfold State.broadcastRevoke State.mapQueue
  simp only [fget_ofFn]

@[simp] theorem State.stack_broadcastRevoke (s : State) (S : Seg) (q : Port) :
    (s.broadcastRevoke S).stack q = (s.stack q).map (fun x => x.revoked S) := by
  unfold State.broadcastRevoke State.stack
  simp only [fget_ofFn]

@[simp] theorem State.slot_broadcastRevoke (s : State) (S : Seg) (id : CursorId) :
    (s.broadcastRevoke S).slot id = if (s.cursor id).holds S then .empty else s.slot id := by
  unfold State.broadcastRevoke State.slot
  simp only [Grid.get_tabulate]

@[simp] theorem State.buffer_broadcastRevoke (s : State) (S : Seg) (id : CursorId) :
    (s.broadcastRevoke S).buffer id =
      if (s.cursor id).holds S then (s.buffer id).cancelled false else s.buffer id := by
  unfold State.broadcastRevoke State.buffer
  simp only [Grid.get_tabulate]

@[simp] theorem State.broadcastRevoke_fillList (s : State) (S : Seg) :
    (s.broadcastRevoke S).fillList = s.fillList.filter (fun id => !(s.cursor id).holds S) := rfl

@[simp] theorem State.buffer_sweep (s : State) (e : PostEntry) (id : CursorId) :
    (s.sweep e).buffer id = (s.buffer id).swept e := by
  unfold State.sweep State.buffer
  simp only [State.setBuffers, Grid.get_tabulate]

/-- Which cursors a replacement turns: those BOUND or EXHAUSTED on the segment (R18). -/
theorem Cursor.replacedBy_iff (c : Cursor) (S : Seg) :
    c.replacedBy S = true ↔ c.segment = some S ∧ (c.state = .bound ∨ ∃ e, c.state = .exhausted e) := by
  unfold Cursor.replacedBy
  split <;> simp_all

/-- Which cursors hold a binding on a segment: those BOUND, EXHAUSTED or REVALIDATING on it (R34). -/
theorem Cursor.holds_iff (c : Cursor) (S : Seg) :
    c.holds S = true ↔
      c.segment = some S ∧ (c.state = .bound ∨ (∃ e, c.state = .exhausted e) ∨ c.state = .revalidating) := by
  unfold Cursor.holds CursorState.holdsBinding
  split <;> simp_all

/-- CLOSE of a cursor already CLOSED changes nothing (R52). -/
theorem State.closeCursor_of_closed (s : State) (id : CursorId) (h : (s.cursor id).state = .closed) :
    s.closeCursor id = s := by
  simp [State.closeCursor, h]

/-- CLOSE of any other cursor: release, map queue, cancellation, record (R52). -/
theorem State.closeCursor_of_open (s : State) (id : CursorId) (h : (s.cursor id).state ≠ .closed) :
    s.closeCursor id =
      (((s.releaseOf (s.cursor id)).leaveQueue id).cancelRead id false).setCursor id Cursor.closed := by
  unfold State.closeCursor
  split
  · rename_i e; exact absurd e h
  · rfl

@[simp] theorem State.link_answer (s : State) (p q : Port) (r : Response) :
    (s.answer p r).link q = if q = p then ⟨some r, [], (s.link p).waiting⟩ else s.link q := by
  simp [State.answer]

@[simp] theorem State.link_holdRequest (s : State) (p q : Port) (i : Instr) :
    (s.holdRequest p i).link q =
      if q = p then { s.link p with waiting := (s.link p).waiting ++ [i] } else s.link q := by
  simp [State.holdRequest]

@[simp] theorem State.link_reoffer (s : State) (p q : Port) :
    (s.reoffer p).link q = if q = p then ⟨none, (s.link p).receiving, []⟩ else s.link q := by
  simp [State.reoffer]

@[simp] theorem State.pending_reoffer (s : State) (p : Port) :
    (s.reoffer p).pending = (s.link p).waiting ++ s.pending := rfl

/-- An offset that fits is held exactly. -/
@[simp] theorem State.heldOffset_of_fits (s : State) (lo hi x : Int) (h : offsetFits x = true) :
    s.heldOffset lo hi x = BitVec.ofInt 32 x := by
  simp [State.heldOffset, h]

/-- What serve can answer: the request waits on the link; it is refused by a general check; or it is carried out. -/
theorem serve_cases (i : Instr) (p : Port) (f : Option ArgField) (tb qt : Bool) (body : State → State × Response) (s : State) :
    (s.requestReady p = false ∧ serve i p f tb qt body s = .next (s.holdRequest p i)) ∨
    (∃ r, s.requestReady p = true ∧ s.generalCheck p f tb qt = some r ∧
      serve i p f tb qt body s = .next (s.answer p (.refused r))) ∨
    (s.requestReady p = true ∧ s.generalCheck p f tb qt = none ∧
      serve i p f tb qt body s = .next ((body s).1.answer p (body s).2)) := by
  unfold serve
  cases h : s.requestReady p
  · exact .inl ⟨rfl, by simp⟩
  · cases g : s.generalCheck p f tb qt with
    | some r => exact .inr (.inl ⟨r, rfl, rfl, by simp⟩)
    | none => exact .inr (.inr ⟨rfl, rfl, by simp⟩)

/-- The general checks pass exactly for a request in range that the port's authority and status admit (R156). -/
theorem State.generalCheck_eq_none (s : State) (p : Port) (f : Option ArgField) (tb qt : Bool) :
    s.generalCheck p f tb qt = none ↔
      f = none ∧ (tb = true → (s.port p).authority = .table) ∧ (qt = false → (s.port p).status = .active) := by
  unfold State.generalCheck
  cases f with
  | some f => simp
  | none =>
    rcases ha : (s.port p).authority <;> rcases hs : (s.port p).status <;> cases tb <;> cases qt <;> simp

/-- An admitted request in range is carried out and answered (R153 to R156). -/
theorem serve_of_admits {i : Instr} {p : Port} {tb qt : Bool} {s : State} (h : s.Admits p tb qt)
    (body : State → State × Response) :
    serve i p none tb qt body s = .next ((body s).1.answer p (body s).2) := by
  obtain ⟨hr, ha, hq⟩ := h
  have hg : s.generalCheck p none tb qt = none := (s.generalCheck_eq_none p none tb qt).2 ⟨rfl, ha, hq⟩
  simp [serve, hr, hg]

/-- While a response is owed a request waits on the link (R153). -/
theorem serve_of_not_ready {i : Instr} {p : Port} {f : Option ArgField} {tb qt : Bool} {s : State}
    (h : s.requestReady p = false) (body : State → State × Response) :
    serve i p f tb qt body s = .next (s.holdRequest p i) := by
  simp [serve, h]

/-- The walk, one segment at a time (R68 to R70). -/
theorem walk_step (s : State) (p : Port) (n : Nat) (S : Seg) (x : Int) (hs : (s.desc S).state = .live)
    (hr : fget (s.desc S).rights p ≠ .none) (hx : ¬ x < (s.desc S).length) (hn : ¬ x < 0) (T : Seg)
    (hl : (s.desc S).link = some T) :
    walk s p (n + 1) S x = walk s p n T (x - (s.desc S).length) := by
  conv => lhs; unfold walk
  simp [hs, hr, hx, hn, hl]


end Sys2Proof.Machine
end

