-- ==== Sys2Proof/Laws/Requests.lean ====
section
/-! SUPPORT. Laws/Requests.lean: for each request, what exec answers once the general checks pass: one equation to cite
in place of unfolding serve and the range checks. -/

namespace Sys2Proof.Machine

@[simp] theorem firstBad_nil : firstBad [] = none := rfl

@[simp] theorem firstBad_cons (b : Bool) (f : ArgField) (rest : List (Bool × ArgField)) :
    firstBad ((b, f) :: rest) = if b then some f else firstBad rest := by
  cases b <;> simp [firstBad]

/-! ### Range checks, one for each kind of field (R185) -/

theorem badCursor_eq {t : BitVec 4} (h : t.toNat < 8) : badCursor t = false := by simp [badCursor]; omega
theorem badPort_eq {t : BitVec 4} (h : t.toNat < 4) : badPort t = false := by simp [badPort]; omega
theorem badSize_eq {z : BitVec 3} (h : z.toNat < 4) : badSize z = false := by simp [badSize]; omega
theorem badCount_eq {k : BitVec 8} (h : k.toNat < 16) : badCount k = false := by simp [badCount]; omega
theorem badSelector_eq {x : BitVec 8} (h : x.toNat < 2) : badSelector x = false := by simp [badSelector]; omega
theorem badSegment_eq {x : BitVec 8} (h : x.toNat < 128) : badSegment x = false := by simp [badSegment]; omega
theorem badOffset_eq {x : Word} (h : x.toNat ≤ 16777215) : badOffset x = false := by simp [badOffset, Config.maxOffset]; omega
theorem badStride_eq {x : BitVec 16} (h : StrideOk x) : badStride x = false := by
  obtain ⟨h1, h2⟩ := h; simp [badStride]; omega
theorem badLink_eq {x : BitVec 8} (h : x.toNat < 128 ∨ x.toNat = 255) : badLink x = false := by simp [badLink]; omega
theorem badDepth_eq {x : BitVec 7} (h : x.toNat ≤ 64) : badDepth x = false := by simp [badDepth]; omega
theorem badLimit_eq {x : BitVec 5} (h : x.toNat ≤ 15) : badLimit x = false := by simp [badLimit]; omega
theorem badInterval_eq {x : BitVec 2} (h : x.toNat < 3) : badInterval x = false := by simp [badInterval]; omega
theorem badBinary_eq {x : BitVec 2} (h : x.toNat < 2) : badBinary x = false := by simp [badBinary]; omega

theorem badRights_eq {x : BitVec 8} (h : ∀ q : Port, (x.extractLsb' (2 * q.val) 2).toNat < 3) :
    badRights x = false := by
  have key : ∀ q : Port, rightsCode x q ≠ 3 := by
    intro q e
    have := h q
    rw [show x.extractLsb' (2 * q.val) 2 = 3 from e] at this
    simp at this
  simp only [badRights, List.any_eq_false, decide_eq_true_eq]
  exact fun q _ => key q

/-- An optional field is in range when its value, if any, is. -/
theorem optBad_eq {α : Type} {bad : α → Bool} {x : Option α} (h : ∀ y, x = some y → bad y = false) :
    optBad bad x = false := by
  cases x with
  | none => rfl
  | some y => exact h y rfl

/-! ### What a request admitted and in range is answered -/

section
variable {p : Port} {t : BitVec 4} {s : State}

theorem exec_open {stride : BitVec 16} {segment : BitVec 8} {offset : Word} {g : Option (BitVec 8)}
    (h : s.Admits p false false) (hf : (Instr.openCursor p t stride segment offset g).FieldsInRange) :
    exec (.openCursor p t stride segment offset g) s =
      .next ((openBody (cursorOf p t) (segNo segment) offset stride g s).1.answer p
        (openBody (cursorOf p t) (segNo segment) offset stride g s).2) := by
  obtain ⟨h1, h2, h3, h4⟩ := hf
  rw [← serve_of_admits (i := .openCursor p t stride segment offset g) h]
  simp [exec, execOpen, badCursor_eq h1, badStride_eq h2, badSegment_eq h3, badOffset_eq h4]

theorem exec_close (h : s.Admits p false true) (h1 : t.toNat < 8) :
    exec (.closeCursor p t) s = .next ((s.closeCursor (cursorOf p t)).answer p (.plain .closed)) := by
  rw [← serve_of_admits (i := .closeCursor p t) h (fun s => (s.closeCursor (cursorOf p t), .plain .closed))]
  simp [exec, execClose, badCursor_eq h1]

theorem exec_seek {offset : Word} {stride : Option (BitVec 16)} (h : s.Admits p false false)
    (hf : (Instr.seek p t offset stride).FieldsInRange) :
    exec (.seek p t offset stride) s =
      .next ((seekBody (cursorOf p t) offset stride s).1.answer p (seekBody (cursorOf p t) offset stride s).2) := by
  obtain ⟨h1, h2, h3⟩ := hf
  rw [← serve_of_admits (i := .seek p t offset stride) h]
  simp [exec, execSeek, badCursor_eq h1, badOffset_eq h2, optBad_eq (fun y hy => badStride_eq (h3 y hy))]

theorem exec_read {size : BitVec 3} (h : s.Admits p false false) (h1 : t.toNat < 8) (h2 : size.toNat < 4) :
    exec (.read p t size) s =
      .next ((readBody (cursorOf p t) (accessSize size) s).1.answer p
        (readBody (cursorOf p t) (accessSize size) s).2) := by
  rw [← serve_of_admits (i := .read p t size) h]
  simp [exec, execRead, badCursor_eq h1, badSize_eq h2]

theorem exec_write {size : BitVec 3} {data : List Word} (h : s.Admits p false false) (h1 : t.toNat < 8)
    (h2 : size.toNat < 4) (hw : (Instr.write p t size data).wf = true) :
    exec (.write p t size data) s =
      .next ((writeBody (cursorOf p t) (accessSize size) data s).1.answer p
        (writeBody (cursorOf p t) (accessSize size) data s).2) := by
  rw [← serve_of_admits (i := .write p t size data) h]
  have hw' : Frame.writeLengthOk size data = true := hw
  simp [exec, execWrite, hw', badCursor_eq h1, badSize_eq h2]

theorem exec_queryCursor {part : BitVec 8} (h : s.Admits p false true) (h1 : t.toNat < 8) (h2 : part.toNat < 2) :
    exec (.queryCursor p t part) s =
      .next (s.answer p (.done (s.cursor (cursorOf p t)).state.code false 0 (cursorReport s (cursorOf p t) part))) := by
  rw [← serve_of_admits (i := .queryCursor p t part) h (fun s =>
    (s, .done (s.cursor (cursorOf p t)).state.code false 0 (cursorReport s (cursorOf p t) part)))]
  simp [exec, execQueryCursor, badCursor_eq h1, badSelector_eq h2]

theorem exec_push (h : s.Admits p false false) (h1 : t.toNat < 8) :
    exec (.push p t) s = .next ((pushBody (cursorOf p t) s).1.answer p (pushBody (cursorOf p t) s).2) := by
  rw [← serve_of_admits (i := .push p t) h]
  simp [exec, execPush, badCursor_eq h1]

theorem exec_pop {k : BitVec 8} (h : s.Admits p false false) (h1 : t.toNat < 8) (h2 : k.toNat < 16) :
    exec (.pop p t k) s =
      .next ((popBody (cursorOf p t) k.toNat s).1.answer p (popBody (cursorOf p t) k.toNat s).2) := by
  rw [← serve_of_admits (i := .pop p t k) h]
  simp [exec, execPop, badCursor_eq h1, badCount_eq h2]

theorem exec_drop (h : s.Admits p false true) :
    exec (.drop p) s = .next ((dropBody p s).1.answer p (dropBody p s).2) := by
  rw [← serve_of_admits (i := .drop p) h]
  simp [exec, execDrop]

theorem exec_stage {base len : Option Word} {link rights : Option (BitVec 8)} {depth : Option (BitVec 7)}
    {keep : Option Bool} (h : s.Admits p true false)
    (hf : (Instr.stage p base len link rights depth keep).FieldsInRange) :
    exec (.stage p base len link rights depth keep) s =
      .next ((s.setPort p
        { s.port p with staging := (s.port p).staging.write base len link rights depth keep }).answer p
          (.plain .noState)) := by
  obtain ⟨h1, h2, h3⟩ := hf
  rw [← serve_of_admits (i := .stage p base len link rights depth keep) h (fun s =>
    (s.setPort p { s.port p with staging := (s.port p).staging.write base len link rights depth keep },
      .plain .noState))]
  simp [exec, execStage, optBad_eq (fun y hy => badLink_eq (h1 y hy)), optBad_eq (fun y hy => badRights_eq (h2 y hy)),
    optBad_eq (fun y hy => badDepth_eq (h3 y hy))]

theorem exec_commit {segment : BitVec 8} (h : s.Admits p true false) (h1 : segment.toNat < 128) :
    exec (.commit p segment) s =
      .next ((commitBody p (segNo segment) s).1.answer p (commitBody p (segNo segment) s).2) := by
  rw [← serve_of_admits (i := .commit p segment) h]
  simp [exec, execCommit, badSegment_eq h1]

theorem exec_retire {mode segment : BitVec 8} (h : s.Admits p true false) (h1 : mode.toNat < 2)
    (h2 : segment.toNat < 128) :
    exec (.retire p mode segment) s =
      .next ((retireBody p (decide (mode = 1)) (segNo segment) s).1.answer p
        (retireBody p (decide (mode = 1)) (segNo segment) s).2) := by
  rw [← serve_of_admits (i := .retire p mode segment) h]
  simp [exec, execRetire, badSelector_eq h1, badSegment_eq h2]

theorem exec_querySegment {part segment : BitVec 8} (h : s.Admits p false true) (h1 : part.toNat < 2)
    (h2 : segment.toNat < 128) :
    exec (.querySegment p part segment) s =
      .next (s.answer p (.done .noState false 0 (segmentRecord (s.desc (segNo segment)) part))) := by
  rw [← serve_of_admits (i := .querySegment p part segment) h (fun s => (s, .done .noState false 0 (segmentRecord (s.desc (segNo segment)) part)))]
  simp [exec, execQuerySegment, badSelector_eq h1, badSegment_eq h2]

theorem exec_fetchNotice (h : s.requestReady p = true) :
    exec (.fetchNotice p) s = .next ((fetchBody p s).1.answer p (fetchBody p s).2) := by
  rw [← serve_of_admits (i := .fetchNotice p) (tb := false) (qt := true) ⟨h, by simp, by simp⟩]
  simp [exec, execFetchNotice]

theorem exec_setPort {a pr : Option (BitVec 2)} {l : Option (BitVec 5)} {i : Option (BitVec 2)}
    (h : s.Admits p true false) (hf : (Instr.setPort p t a pr l i).FieldsInRange) :
    exec (.setPort p t a pr l i) s =
      .next ((setPortBody (portNo t) (a.map authorityOf) (pr.map priorityOf) (l.map (fun x => x.toNat))
          (i.map intervalOf) s).1.answer p
        (setPortBody (portNo t) (a.map authorityOf) (pr.map priorityOf) (l.map (fun x => x.toNat))
          (i.map intervalOf) s).2) := by
  obtain ⟨h1, h2, h3, h4, h5⟩ := hf
  rw [← serve_of_admits (i := .setPort p t a pr l i) h]
  simp [exec, execSetPort, badPort_eq h1, optBad_eq (fun y hy => badBinary_eq (h2 y hy)),
    optBad_eq (fun y hy => badBinary_eq (h3 y hy)), optBad_eq (fun y hy => badLimit_eq (h4 y hy)),
    optBad_eq (fun y hy => badInterval_eq (h5 y hy))]

theorem exec_releasePort (h : s.Admits p true false) (h1 : t.toNat < 4) :
    exec (.releasePort p t) s =
      .next ((releasePortBody (portNo t) s).1.answer p (releasePortBody (portNo t) s).2) := by
  rw [← serve_of_admits (i := .releasePort p t) h]
  simp [exec, execReleasePort, badPort_eq h1]

/-- RESET_PORT of the issuing port, from any port, or of another, from an ACTIVE TABLE port. -/
theorem exec_resetPort (h : s.requestReady p = true) (h1 : t.toNat < 4)
    (hp : portNo t = p ∨ (s.port p).authority = .table ∧ (s.port p).status = .active) :
    exec (.resetPort p t) s = .next ((s.resetPort (portNo t)).answer p (.plain .active)) := by
  have ha : s.Admits p (decide (portNo t ≠ p)) (decide (portNo t = p)) := by
    rcases hp with e | ⟨e1, e2⟩
    · exact ⟨h, by simp [e], by simp [e]⟩
    · exact ⟨h, fun _ => e1, fun _ => e2⟩
  rw [← serve_of_admits (i := .resetPort p t) ha (fun s => (s.resetPort (portNo t), .plain .active))]
  simp [exec, execResetPort, badPort_eq h1]

end

/-! ### The checks of an access -/

/-- An access that passes checks 1 and 2 of R41 reaches the Read-Ahead Unit or the Post Queue with its segment. -/
theorem accessCheck_of_passes {s : State} {id : CursorId} {S : Seg} {z : AccessSize} (h : s.AccessPasses id S z) :
    accessCheck s id z = .ok S := by
  obtain ⟨h1, h2, h3, h4⟩ := h
  have h5 : ¬ ((s.desc S).length : Int) < (s.cursor id).offset.toInt + z.bytes := by omega
  simp [accessCheck, h1, h2, h5, h4]

/-- And an access that reaches them passed the checks. -/
theorem passes_of_accessCheck {s : State} {id : CursorId} {S : Seg} {z : AccessSize}
    (h : accessCheck s id z = .ok S) : s.AccessPasses id S z := by
  unfold accessCheck at h
  dsimp only at h
  split at h <;> try (simp at h; done)
  split at h <;> try (simp at h; done)
  split at h <;> try (simp at h; done)
  split at h
  · simp at h
  · rename_i h1 _ S' h2 h3 h4
    simp at h
    subst h
    exact ⟨h1, h2, by omega, by simpa using h4⟩

theorem readBody_of_passes {s : State} {id : CursorId} {S : Seg} {z : AccessSize} (h : s.AccessPasses id S z) :
    readBody id z s = readAhead id S z s := by
  simp [readBody, accessCheck_of_passes h]

end Sys2Proof.Machine
end

