-- ==== Sys2Proof/Laws/Effects.lean ====
section
/-! SUPPORT. Laws/Effects.lean: the shared operations have the effects Safety.lean describes: release, advance,
cancellation, the end of a walk, deliveries. -/

namespace Sys2Proof.Machine

/-! ### OnlyChanges -/

theorem State.OnlyChanges.refl (s : State) (parts : List Part) : s.OnlyChanges s parts := by
  intro q _; cases q <;> rfl

theorem State.OnlyChanges.trans {s t u : State} {a b : List Part} (h : s.OnlyChanges t a) (g : t.OnlyChanges u b) :
    s.OnlyChanges u (a ++ b) := by
  intro q hq
  have hs := h q (fun m => hq (List.mem_append_left _ m))
  have ht := g q (fun m => hq (List.mem_append_right _ m))
  cases q <;> exact Eq.trans ht hs

theorem State.OnlyChanges.mono {s t : State} {a b : List Part} (h : s.OnlyChanges t a) (hab : ∀ q ∈ a, q ∈ b) :
    s.OnlyChanges t b :=
  fun q hq => h q (fun m => hq (hab q m))

/-- A body that changes only these parts, answered, is a request taken that changes only them. -/
theorem State.Took.of_body {s t : State} {p : Port} {r : Response} {parts : List Part} (h : s.OnlyChanges t parts)
    (hl : t.links = s.links) : s.Took (t.answer p r) p r parts := by
  refine ⟨⟨by rw [State.link_answer, if_pos rfl]; simp only [State.link, hl], fun q hq => ?_⟩, fun q hq => ?_⟩
  · simp only [State.link_answer, hq, if_false]
    simp only [State.link, hl]
  · have hs := h q (fun m => hq (List.mem_cons_of_mem _ m))
    cases q <;> first | exact hs | exact absurd (List.mem_cons_self ..) hq

/-! ### Release -/

/-- A release is the effect of R10, R21 and R23. -/
theorem State.released_release (s : State) (S : Seg) : s.Released (s.release S) S := by
  refine ⟨fun T hT => by simp [hT], ?_, ?_⟩
  · rintro (h | ⟨h, h'⟩)
    · have hc : (s.desc S).completes = false := by simp [Descriptor.completes, h]
      refine ⟨by simp [Descriptor.released, h], by simp [State.release, hc]⟩
    · have hc : (s.desc S).completes = false := by simp [Descriptor.completes, h']
      refine ⟨by simp [Descriptor.released, h, h'], by simp [State.release, hc]⟩
  · intro h h'
    have hc : (s.desc S).completes = true := by simp [Descriptor.completes, h, h']
    refine ⟨by simp [Descriptor.released, h, h', Descriptor.freed], fun q => ?_⟩
    rw [State.noticeQueue_release]
    simp [hc]

theorem State.onlyChanges_release (s : State) (S : Seg) : s.OnlyChanges (s.release S) [.dt, .notices] := by
  intro q hq; cases q <;> simp_all [State.agree]

theorem State.onlyChanges_releaseOf (s : State) (c : Cursor) : s.OnlyChanges (s.releaseOf c) [.dt, .notices] := by
  intro q hq; cases q <;> simp_all [State.agree]

/-- The release of what a cursor holds: its segment's binding. -/
theorem State.releaseOf_of_holds (s : State) (c : Cursor) (S : Seg) (h : c.state.holdsBinding = true)
    (hs : c.segment = some S) : s.releaseOf c = s.release S := by
  simp [State.releaseOf, h, hs]

/-- A cursor without a binding has nothing to release. -/
theorem State.releaseOf_of_not_holds (s : State) (c : Cursor) (h : c.state.holdsBinding = false) :
    s.releaseOf c = s := by
  simp [State.releaseOf, h]

/-- Released speaks of the descriptors and the notices alone. -/
theorem State.Released.congr {s t s' t' : State} {S : Seg} (h : s.Released t S) (hd : s'.dt = s.dt)
    (hn : s'.notices = s.notices) (hd' : t'.dt = t.dt) (hn' : t'.notices = t.notices) : s'.Released t' S := by
  obtain ⟨h1, h2, h3⟩ := h
  have e1 : ∀ T, s'.desc T = s.desc T := fun T => by simp [State.desc, hd]
  have e2 : ∀ T, t'.desc T = t.desc T := fun T => by simp [State.desc, hd']
  have e3 : ∀ q, s'.noticeQueue q = s.noticeQueue q := fun q => by simp [State.noticeQueue, hn]
  have e4 : ∀ q, t'.noticeQueue q = t.noticeQueue q := fun q => by simp [State.noticeQueue, hn']
  refine ⟨fun T hT => ?_, ?_, ?_⟩
  · rw [e1, e2]; exact h1 T hT
  · intro hc; rw [e1] at hc; rw [e1, e2, hn, hn']; exact h2 hc
  · intro hc hc'
    rw [e1] at hc hc'
    rw [e1, e2]
    refine ⟨(h3 hc hc').1, fun q => ?_⟩
    rw [e3, e4]; exact (h3 hc hc').2 q

/-! ### Advance resolution -/

/-- An offset that fits is held exactly. -/
theorem offsetFits_of {x : Int} (h1 : -2147483648 ≤ x) (h2 : x ≤ 2147483647) : offsetFits x = true := by
  simp [offsetFits, h1, h2]

/-- Advance resolution is the table of R45, with the effects of R46 and R47. -/
theorem State.advanced_advance (s : State) (id : CursorId) (S : Seg) (m : Nat) : s.Advanced (s.advance id S m) id S m := by
  refine ⟨fun x hx => ?_, fun h0 hl => ?_, fun T hx hst hl => ?_, fun hx hst => ?_, fun hx => ?_⟩
  · unfold State.advance
    dsimp only
    split <;> simp [hx]
  · have hr : resolveAdvance (s.desc S).length (s.desc S).link (s.cursor id).stride.toInt
        ((s.cursor id).offset.toInt + m * (s.cursor id).stride.toInt) =
        .bound ((s.cursor id).offset.toInt + m * (s.cursor id).stride.toInt) := by
      simp only [resolveAdvance]
      rw [if_neg (by omega), if_pos hl]
    simp [State.advance, hr]
  · have hr : resolveAdvance (s.desc S).length (s.desc S).link (s.cursor id).stride.toInt
        ((s.cursor id).offset.toInt + m * (s.cursor id).stride.toInt) =
        .crossing T ((s.cursor id).offset.toInt + m * (s.cursor id).stride.toInt - (s.desc S).length) := by
      simp only [resolveAdvance]
      rw [if_neg (by omega), if_neg (by omega), if_neg (by omega), hl]
    simp only [State.advance, hr]
    refine ⟨⟨_, by simp; rfl, fun h => ?_⟩, ?_, by simp, fun q hq => by simp [hq]⟩
    · exact State.heldOffset_of_fits _ _ _ _ (offsetFits_of (by omega) h)
    · exact (State.released_release (s.spendOffset
        ((s.cursor id).offset.toInt + m * (s.cursor id).stride.toInt - (s.desc S).length)) S).congr
        (by simp) (by simp) (by simp) (by simp)
  · have hr : resolveAdvance (s.desc S).length (s.desc S).link (s.cursor id).stride.toInt
        ((s.cursor id).offset.toInt + m * (s.cursor id).stride.toInt) =
        .exhausted .atEnd ((s.cursor id).offset.toInt + m * (s.cursor id).stride.toInt) := by
      simp only [resolveAdvance]
      rw [if_neg (by omega), if_neg (by omega)]
      rcases hst with h | h
      · rw [if_pos h]
      · split
        · rfl
        · rw [h]
    simp only [State.advance, hr]
    refine ⟨⟨_, by simp; rfl, fun h1 h2 => ?_⟩, by simp, by simp, by simp⟩
    exact State.heldOffset_of_fits _ _ _ _ (offsetFits_of h1 h2)
  · have hr : resolveAdvance (s.desc S).length (s.desc S).link (s.cursor id).stride.toInt
        ((s.cursor id).offset.toInt + m * (s.cursor id).stride.toInt) =
        .exhausted .atStart ((s.cursor id).offset.toInt + m * (s.cursor id).stride.toInt) := by
      simp only [resolveAdvance]
      rw [if_pos hx]
    simp only [State.advance, hr]
    refine ⟨⟨_, by simp; rfl, fun h1 h2 => ?_⟩, by simp, by simp, by simp⟩
    exact State.heldOffset_of_fits _ _ _ _ (offsetFits_of h1 h2)

theorem State.onlyChanges_advance (s : State) (id : CursorId) (S : Seg) (m : Nat) :
    s.OnlyChanges (s.advance id S m) [.cursors, .dt, .notices, .mapQueues, .freeCount] := by
  intro q hq; cases q <;> simp_all [State.agree]

/-- Advanced speaks of cursors, descriptors, notices and map queues alone. -/
theorem State.Advanced.congr {s t s' t' : State} {id : CursorId} {S : Seg} {m : Nat} (h : s.Advanced t id S m)
    (hc : s'.cursors = s.cursors) (hd : s'.dt = s.dt) (hn : s'.notices = s.notices) (hm : s'.mapQueues = s.mapQueues)
    (hc' : t'.cursors = t.cursors) (hd' : t'.dt = t.dt) (hn' : t'.notices = t.notices)
    (hm' : t'.mapQueues = t.mapQueues) : s'.Advanced t' id S m := by
  obtain ⟨h0, h1, h2, h3, h4⟩ := h
  have e1 : ∀ x, s'.cursor x = s.cursor x := fun x => by simp [State.cursor, hc]
  have e2 : ∀ x, t'.cursor x = t.cursor x := fun x => by simp [State.cursor, hc']
  have e3 : ∀ T, s'.desc T = s.desc T := fun T => by simp [State.desc, hd]
  have e5 : ∀ q, s'.mapQueue q = s.mapQueue q := fun q => by simp [State.mapQueue, hm]
  have e6 : ∀ q, t'.mapQueue q = t.mapQueue q := fun q => by simp [State.mapQueue, hm']
  refine ⟨fun x hx => ?_, ?_, fun T => ?_, ?_, ?_⟩
  · rw [e1, e2]; exact h0 x hx
  · rw [e1, e2, e3, hd, hd', hn, hn', hm, hm']; exact h1
  · rw [e1, e2, e3, e5, e6]
    intro a b c
    obtain ⟨g1, g2, g3, g4⟩ := h2 T a b c
    exact ⟨g1, g2.congr hd hn hd' hn', g3, fun q hq => by rw [e5, e6]; exact g4 q hq⟩
  · rw [e1, e3]
    intro a b
    have := h3 a b
    unfold State.Exhausts at *
    rw [e1, e2, hd, hd', hn, hn', hm, hm']; exact this
  · rw [e1]
    intro a
    have := h4 a
    unfold State.Exhausts at *
    rw [e1, e2, hd, hd', hn, hn', hm, hm']; exact this

/-! ### Validation -/

/-- A record passes validation exactly when the four checks of R15 hold. -/
theorem validateRecord_eq_none (b : Word) (n k : Nat) :
    validateRecord b n k = none ↔
      b.toNat % 64 = 0 ∧ 64 ≤ n ∧ n ≤ 16777216 ∧ n % 64 = 0 ∧ b.toNat + n ≤ 4294967296 ∧
        (k = 0 ∨ k = 16 ∨ k = 32 ∨ k = 64) := by
  unfold validateRecord Config.maxSegmentLength
  by_cases h1 : b.toNat % 64 ≠ 0
  · rw [if_pos h1]; simp; omega
  · rw [if_neg h1]
    by_cases h2 : n < 64 ∨ 16777216 < n ∨ n % 64 ≠ 0
    · rw [if_pos h2]; simp; omega
    · rw [if_neg h2]
      by_cases h3 : 4294967296 < b.toNat + n
      · rw [if_pos h3]; simp; omega
      · rw [if_neg h3]
        by_cases h4 : k = 0 ∨ k = 16 ∨ k = 32 ∨ k = 64
        · rw [if_pos h4]; simp; omega
        · rw [if_neg h4]; simp; omega

/-! ### Cancellation -/

/-- A cancellation is the effect of R116 and R117. -/
theorem State.cancelled_cancelRead (s : State) (id : CursorId) (k : Bool) : s.Cancelled (s.cancelRead id k) id k := by
  refine ⟨by simp, fun x hx => by simp [hx], fun x hx => by simp [hx], ?_, ?_, ?_, ?_, by simp⟩
  · intro b n v h; simp [h, Buffer.cancelled]
  · intro b n v h; simp [h, Buffer.cancelled]
  · intro b n data h; simp [h, Buffer.cancelled]
  · intro h; simp [h, Buffer.cancelled]

/-- Cancelled speaks of slots, buffers and the fill request list alone. -/
theorem State.Cancelled.congr {s t s' t' : State} {id : CursorId} {k : Bool} (h : s.Cancelled t id k)
    (h1 : s'.slots = s.slots) (h2 : s'.buffers = s.buffers) (h3 : s'.fillList = s.fillList)
    (h4 : t'.slots = t.slots) (h5 : t'.buffers = t.buffers) (h6 : t'.fillList = t.fillList) : s'.Cancelled t' id k := by
  unfold State.Cancelled State.SameSlotsBut State.SameBuffersBut State.slot State.buffer at *
  rw [h1, h2, h3, h4, h5, h6]; exact h

/-! ### The end of a walk -/

/-- The settling of a served cursor is the effect of R39, R71 and R72. -/
theorem State.settled_settle (s : State) (id : CursorId) (o : Origin) (w : Walk) : s.Settled (s.settle id o w) id o w := by
  cases w with
  | bound S x =>
    refine ⟨by simp [State.settle, placedCursor], by simp [State.settle], fun T hT => by simp [State.settle, hT], ?_⟩
    simp [State.settle]
  | exhausted S x side =>
    refine ⟨by simp [State.settle, placedCursor], by simp [State.settle], fun T hT => by simp [State.settle, hT], ?_⟩
    simp [State.settle]
  | failed S x reason =>
    refine ⟨by simp [State.settle, failedCursor], by simp [State.settle], by simp [State.settle], fun q hq => ?_⟩
    simp [State.settle, hq]

/-- Settled speaks of cursors, descriptors and notices alone. -/
theorem State.Settled.congr {s t s' t' : State} {id : CursorId} {o : Origin} {w : Walk} (h : s.Settled t id o w)
    (hc : s'.cursors = s.cursors) (hd : s'.dt = s.dt) (hn : s'.notices = s.notices) (hc' : t'.cursors = t.cursors)
    (hd' : t'.dt = t.dt) (hn' : t'.notices = t.notices) : s'.Settled t' id o w := by
  have e1 : ∀ x, s'.cursor x = s.cursor x := fun x => by simp [State.cursor, hc]
  have e2 : ∀ x, t'.cursor x = t.cursor x := fun x => by simp [State.cursor, hc']
  have e3 : ∀ T, s'.desc T = s.desc T := fun T => by simp [State.desc, hd]
  have e4 : ∀ T, t'.desc T = t.desc T := fun T => by simp [State.desc, hd']
  have e5 : ∀ q, s'.noticeQueue q = s.noticeQueue q := fun q => by simp [State.noticeQueue, hn]
  have e6 : ∀ q, t'.noticeQueue q = t.noticeQueue q := fun q => by simp [State.noticeQueue, hn']
  cases w <;>
    simp only [State.Settled, State.SameDescsBut, State.SameNoticesBut, e1, e2, e3, e4, e5, e6, hd, hd', hn, hn']
      at * <;>
    exact h

/-- A walk reads the descriptor table alone. -/
theorem walk_congr {s t : State} (h : s.dt = t.dt) (p : Port) (n : Nat) (S : Seg) (x : Int) :
    walk s p n S x = walk t p n S x := by
  have hd : ∀ S, s.desc S = t.desc S := fun S => by simp [State.desc, h]
  induction n generalizing S x with
  | zero => unfold walk; simp only [hd]
  | succ n ih => unfold walk; simp only [hd, ih]

theorem placementWalk_congr {s t : State} (h : s.dt = t.dt) (p : Port) (S : Seg) (x : Int)
    (e : Option (BitVec 8)) : placementWalk s p S x e = placementWalk t p S x e := by
  have hd : ∀ S, s.desc S = t.desc S := fun S => by simp [State.desc, h]
  unfold placementWalk
  simp only [hd, walk_congr h p]

/-! ### Deliveries -/

/-- A fill's arrival is the effect of R107 to R109. -/
theorem State.fillDelivered_fillArrival (s : State) (id : CursorId) (d : Delivery) :
    s.FillDelivered (s.fillArrival id d) id d := by
  refine ⟨fun x hx => ?_, fun x hx => ?_, by simp, by simp, fun b n => ⟨fun hb => ?_, fun z S hb hz hS => ?_⟩⟩
  · unfold State.fillArrival State.voidArrival State.liveArrival State.fillSlot
    repeat' split
    all_goals simp [hx]
  · unfold State.fillArrival State.voidArrival State.liveArrival State.fillSlot
    repeat' split
    all_goals simp [hx]
  · refine ⟨?_, fun z hz => ?_, fun hz => ?_⟩
    · simp only [State.fillArrival, hb, State.voidArrival]
      split <;> simp
    · simp [State.fillArrival, hb, State.voidArrival, hz]
    · simp [State.fillArrival, hb, State.voidArrival, hz]
  · cases d <;>
      simp [State.fillArrival, hb, State.liveArrival, State.fillSlot, hz, State.pendingBytes, hS, physical,
        Delivery.failure]

/-- A completion at the Post Queue is the effect of R129 and R130. -/
theorem State.writeDelivered_writeCompletion (s : State) (tag : TagNo) (d : Delivery) :
    s.WriteDelivered (s.writeCompletion tag d) tag d := by
  refine ⟨by simp, by simp, by simp, fun front e rest hq he hx => ?_⟩
  have hf : s.postQueue.find? (fun e => decide (e.state = .issued tag)) = some e := by
    rw [hq, List.find?_append]
    have : front.find? (fun e => decide (e.state = .issued tag)) = none := by
      rw [List.find?_eq_none]
      intro x hx'; simpa using hx x (List.mem_append_left _ hx')
    simp [this, he]
  have hl : s.postQueue.filter (fun x => decide (x.state ≠ .issued tag)) = front ++ rest := by
    rw [hq, List.filter_append, List.filter_cons]
    rw [List.filter_eq_self.2 (fun x hx' => by simpa using hx x (List.mem_append_left _ hx'))]
    rw [List.filter_eq_self.2 (fun x hx' => by simpa using hx x (List.mem_append_right _ hx'))]
    simp [he]
  cases d <;> simp only [State.writeCompletion, hf, State.notifyFailed]
  all_goals refine ⟨by simpa using hl, fun q hq' => ?_, ?_⟩
  all_goals simp_all

/-- FillDelivered reads the first state in these fields alone. -/
theorem State.FillDelivered.congr {s t s' : State} {id : CursorId} {d : Delivery} (h : s.FillDelivered t id d)
    (h1 : s'.slots = s.slots) (h2 : s'.buffers = s.buffers) (h3 : s'.notices = s.notices)
    (h4 : s'.postQueue = s.postQueue) (h5 : s'.fillList = s.fillList) (h6 : s'.dt = s.dt)
    (h7 : s'.cursors = s.cursors) (h8 : s'.ports = s.ports) : s'.FillDelivered t id d := by
  unfold State.FillDelivered State.SameSlotsBut State.SameBuffersBut State.slot State.buffer State.cursor State.desc
    State.port at *
  rw [h1, h2, h3, h4, h5, h6, h7, h8]; exact h

/-- WriteDelivered reads the first state in these fields alone. -/
theorem State.WriteDelivered.congr {s t s' : State} {n : TagNo} {d : Delivery} (h : s.WriteDelivered t n d)
    (h1 : s'.slots = s.slots) (h2 : s'.buffers = s.buffers) (h3 : s'.notices = s.notices)
    (h4 : s'.postQueue = s.postQueue) (h5 : s'.fillList = s.fillList) : s'.WriteDelivered t n d := by
  unfold State.WriteDelivered State.SameNoticesBut State.noticeQueue at *
  rw [h1, h2, h3, h4, h5]; exact h

/-- A delivery after a change of one tag has the effect of the delivery before it. -/
theorem State.Delivered.of_setTag {s t : State} {n m : TagNo} {x : Tag} {owner : TagOwner} {d : Delivery}
    (h : (s.setTag m x).Delivered t n owner d) : s.Delivered t n owner d := by
  cases owner
  · exact State.FillDelivered.congr h rfl rfl rfl rfl rfl rfl rfl rfl
  · exact State.WriteDelivered.congr h rfl rfl rfl rfl rfl

/-- A delivery reaches the owner with the effect of R146 and R147. -/
theorem State.delivered_deliver (s : State) (tag : TagNo) (owner : TagOwner) (d : Delivery) :
    s.Delivered (s.deliver tag owner d) tag owner d := by
  cases owner with
  | fill id => exact s.fillDelivered_fillArrival id d
  | write => exact s.writeDelivered_writeCompletion tag d

theorem State.onlyChanges_deliver (s : State) (tag : TagNo) (owner : TagOwner) (d : Delivery) :
    s.OnlyChanges (s.deliver tag owner d) [.buffers, .slots, .fillList, .postQueue, .notices] := by
  intro q hq
  cases owner <;> cases q <;> simp_all [State.agree, State.deliver]

end Sys2Proof.Machine
end

