-- ==== Sys2Proof/Laws/Frames.lean ====
section
/-! SUPPORT. Laws/Frames.lean: the fields of a header that Frame.header builds are the fields it was given, and the
flag bits those given. -/

namespace Sys2Proof

section
variable (code : BitVec 8) (target : BitVec 4) (size : BitVec 3) (flags param : BitVec 8)

@[simp] theorem Frame.code_header : Frame.code (Frame.header code target size flags param) = code := by
  apply BitVec.eq_of_getLsbD_eq
  intro i hi
  simp only [Frame.code, Frame.header, BitVec.getLsbD_extractLsb', BitVec.getLsbD_append, hi, decide_true,
    Bool.true_and, Nat.zero_add]
  simp [hi]

@[simp] theorem Frame.target_header : Frame.target (Frame.header code target size flags param) = target := by
  apply BitVec.eq_of_getLsbD_eq
  intro i hi
  simp only [Frame.target, Frame.header, BitVec.getLsbD_extractLsb', BitVec.getLsbD_append, hi, decide_true,
    Bool.true_and]
  simp [hi]

@[simp] theorem Frame.size_header : Frame.size (Frame.header code target size flags param) = size := by
  apply BitVec.eq_of_getLsbD_eq
  intro i hi
  simp only [Frame.size, Frame.header, BitVec.getLsbD_extractLsb', BitVec.getLsbD_append, hi, decide_true,
    Bool.true_and]
  have h1 : ¬ 12 + i < 8 := by omega
  have h2 : ¬ 12 + i - 8 < 4 := by omega
  have h3 : 12 + i - 8 - 4 = i := by omega
  simp [h1, h2, h3, hi]

@[simp] theorem Frame.flags_header : Frame.flags (Frame.header code target size flags param) = flags := by
  apply BitVec.eq_of_getLsbD_eq
  intro i hi
  simp only [Frame.flags, Frame.header, BitVec.getLsbD_extractLsb', BitVec.getLsbD_append, hi, decide_true,
    Bool.true_and]
  have h1 : ¬ 16 + i < 8 := by omega
  have h2 : ¬ 16 + i - 8 < 4 := by omega
  have h3 : ¬ 16 + i - 8 - 4 < 3 := by omega
  have h4 : ¬ 16 + i - 8 - 4 - 3 < 1 := by omega
  have h5 : 16 + i - 8 - 4 - 3 - 1 = i := by omega
  simp [h1, h2, h3, h4, h5, hi]

@[simp] theorem Frame.param_header : Frame.param (Frame.header code target size flags param) = param := by
  apply BitVec.eq_of_getLsbD_eq
  intro i hi
  simp only [Frame.param, Frame.header, BitVec.getLsbD_extractLsb', BitVec.getLsbD_append, hi, decide_true,
    Bool.true_and]
  have h1 : ¬ 24 + i < 8 := by omega
  have h2 : ¬ 24 + i - 8 < 4 := by omega
  have h3 : ¬ 24 + i - 8 - 4 < 3 := by omega
  have h4 : ¬ 24 + i - 8 - 4 - 3 < 1 := by omega
  have h5 : ¬ 24 + i - 8 - 4 - 3 - 1 < 8 := by omega
  have h6 : 24 + i - 8 - 4 - 3 - 1 - 8 = i := by omega
  simp [h1, h2, h3, h4, h5, h6]

end

/-- Each flag bit is the one given. -/
theorem Frame.flagBits_bits (b0 b1 b2 b3 b4 b5 : Bool) :
    (Frame.flagBits b0 b1 b2 b3 b4 b5).getLsbD 0 = b0 ∧ (Frame.flagBits b0 b1 b2 b3 b4 b5).getLsbD 1 = b1 ∧
      (Frame.flagBits b0 b1 b2 b3 b4 b5).getLsbD 2 = b2 ∧ (Frame.flagBits b0 b1 b2 b3 b4 b5).getLsbD 3 = b3 ∧
      (Frame.flagBits b0 b1 b2 b3 b4 b5).getLsbD 4 = b4 ∧ (Frame.flagBits b0 b1 b2 b3 b4 b5).getLsbD 5 = b5 := by
  revert b0 b1 b2 b3 b4 b5
  decide

end Sys2Proof
end

