-- ==== Sys2Proof/Laws/PerInstr.lean ====
section
/-! SUPPORT. Laws/PerInstr.lean: statements made for every command, one lemma for each constructor. -/

namespace Sys2Proof.Laws.FrameShape

open Sys2Proof

/-- A well-formed request has a frame, on the port it is taken on, of a header and at most three argument words
(section 10.1; a BAD_REQUEST frame may be longer); an event has no frame. -/
def Statement (i : Instr) : Prop :=
  i.wf = true →
    match i.requestPort with
    | none => encodeFrame i = none
    | some p =>
      ∃ h args, encodeFrame i = some (p, h :: args) ∧
        (args.length ≤ 3 ∨ parseFrame p (h :: args) = .badRequest p (h :: args))

theorem openCursor (p : Port) (t : BitVec 4) (stride : BitVec 16) (segment : BitVec 8) (offset : Word)
    (g : Option (BitVec 8)) :
    Statement (.openCursor p t stride segment offset g) :=
  fun _ => ⟨_, _, rfl, .inl (by cases g <;> simp)⟩
theorem closeCursor (p : Port) (t : BitVec 4) : Statement (.closeCursor p t) :=
  fun _ => ⟨_, _, rfl, .inl (by simp)⟩
theorem seek (p : Port) (t : BitVec 4) (offset : Word) (stride : Option (BitVec 16)) :
    Statement (.seek p t offset stride) :=
  fun _ => ⟨_, _, rfl, .inl (by cases stride <;> simp)⟩
theorem read (p : Port) (t : BitVec 4) (size : BitVec 3) : Statement (.read p t size) :=
  fun _ => ⟨_, _, rfl, .inl (by simp)⟩
theorem write (p : Port) (t : BitVec 4) (size : BitVec 3) (data : List Word) :
    Statement (.write p t size data) := by
  intro hw
  refine ⟨_, _, rfl, .inl ?_⟩
  simp only [Instr.wf, Frame.writeLengthOk, Frame.writeWords] at hw
  split at hw
  · rename_i n hn
    have hd : data.length = n := by simpa using hw
    split at hn
    · simp_all; omega
    · split at hn <;> simp_all; omega
  · simpa using hw
theorem queryCursor (p : Port) (t : BitVec 4) (part : BitVec 8) : Statement (.queryCursor p t part) :=
  fun _ => ⟨_, _, rfl, .inl (by simp)⟩
theorem push (p : Port) (t : BitVec 4) : Statement (.push p t) :=
  fun _ => ⟨_, _, rfl, .inl (by simp)⟩
theorem pop (p : Port) (t : BitVec 4) (k : BitVec 8) : Statement (.pop p t k) :=
  fun _ => ⟨_, _, rfl, .inl (by simp)⟩
theorem drop (p : Port) : Statement (.drop p) :=
  fun _ => ⟨_, _, rfl, .inl (by simp)⟩
theorem stage (p : Port) (base length : Option Word) (link rights : Option (BitVec 8)) (depth : Option (BitVec 7))
    (keep : Option Bool) :
    Statement (.stage p base length link rights depth keep) :=
  fun _ => ⟨_, _, rfl, .inl (by cases base <;> cases length <;> split <;> simp)⟩
theorem commit (p : Port) (segment : BitVec 8) : Statement (.commit p segment) :=
  fun _ => ⟨_, _, rfl, .inl (by simp)⟩
theorem retire (p : Port) (mode : BitVec 8) (segment : BitVec 8) : Statement (.retire p mode segment) :=
  fun _ => ⟨_, _, rfl, .inl (by simp)⟩
theorem querySegment (p : Port) (part : BitVec 8) (segment : BitVec 8) : Statement (.querySegment p part segment) :=
  fun _ => ⟨_, _, rfl, .inl (by simp)⟩
theorem fetchNotice (p : Port) : Statement (.fetchNotice p) :=
  fun _ => ⟨_, _, rfl, .inl (by simp)⟩
theorem setPort (p : Port) (t : BitVec 4) (authority : Option (BitVec 2)) (priority : Option (BitVec 2))
    (limit : Option (BitVec 5)) (interval : Option (BitVec 2)) :
    Statement (.setPort p t authority priority limit interval) :=
  fun _ => ⟨_, _, rfl, .inl (by split <;> simp)⟩
theorem releasePort (p : Port) (t : BitVec 4) : Statement (.releasePort p t) :=
  fun _ => ⟨_, _, rfl, .inl (by simp)⟩
theorem resetPort (p : Port) (t : BitVec 4) : Statement (.resetPort p t) :=
  fun _ => ⟨_, _, rfl, .inl (by simp)⟩
theorem badRequest (p : Port) (frame : List Word) : Statement (.badRequest p frame) := by
  intro hw
  cases frame with
  | nil => simp [Instr.wf] at hw
  | cons h args =>
    simp only [Instr.wf, Bool.and_eq_true, decide_eq_true_eq] at hw
    exact ⟨_, _, rfl, .inr hw.2⟩
theorem placementService : Statement .placementService :=
  fun _ => rfl
theorem grant (memReady : Bool) : Statement (.grant memReady) :=
  fun _ => rfl
theorem responseFirstBeat (tag : TagNo) (error : Bool) (data : Lines) :
    Statement (.responseFirstBeat tag error data) :=
  fun _ => rfl
theorem memoryResponse (tag : TagNo) (error : Bool) (beats : List Lines) :
    Statement (.memoryResponse tag error beats) :=
  fun _ => rfl
theorem lateOrStrayResponse (tag : TagNo) (error : Bool) (beats : List Lines) :
    Statement (.lateOrStrayResponse tag error beats) :=
  fun _ => rfl
theorem responseTimerExpiry (tag : TagNo) : Statement (.responseTimerExpiry tag) :=
  fun _ => rfl
theorem discardTimerExpiry (p : Port) (c : CursorNo) : Statement (.discardTimerExpiry p c) :=
  fun _ => rfl
theorem deviceReset (straps : BitVec 4) : Statement (.deviceReset straps) :=
  fun _ => rfl
theorem responseLastWordPassed (p : Port) : Statement (.responseLastWordPassed p) :=
  fun _ => rfl

end Sys2Proof.Laws.FrameShape
end

