-- ==== Sys2Proof/Tests/Slice0.lean ====
section
/-! SUPPORT. Tests/Slice0.lean: tests of the model on small states: well-formedness, the worked frames of section
10.4, one step of each command, and a witness for the hypotheses of each obligation. -/

set_option Elab.async false

namespace Sys2Proof.Tests

open Sys2Proof Sys2Proof.Machine

/-! ### Well-formedness -/

theorem test_wf_write_ok : (Instr.write 0 0 3 [1, 2]).wf = true := by decide
theorem test_wf_write_short : (Instr.write 0 0 3 [1]).wf = false := by decide
theorem test_wf_write_undefined_size : (Instr.write 0 0 4 [1, 2, 3]).wf = true ∧ (Instr.write 0 0 4 [1, 2, 3, 4]).wf = false := by
  decide
theorem test_wf_badRequest_ok : (Instr.badRequest 0 [0x000000FF]).wf = true := by decide
theorem test_wf_badRequest_empty : (Instr.badRequest 0 []).wf = false := by decide
theorem test_wf_badRequest_good_frame : (Instr.badRequest 0 [0x00000112]).wf = false := by decide
theorem test_wf_response_ok : (Instr.memoryResponse 0 false [0]).wf = true ∧ (Instr.lateOrStrayResponse 0 true [0]).wf = true := by
  decide
theorem test_wf_response_no_beat : (Instr.memoryResponse 0 false []).wf = false := by decide
theorem test_wf_late_no_beat : (Instr.lateOrStrayResponse 0 false []).wf = false := by decide

/-! ### The frames of section 10.4 -/

theorem test_open_frame :
    parseFrame 2 [0x00010501, 0x000CFFF8, 0x00000040, 0x00000003] =
      .openCursor 2 5 (BitVec.ofInt 16 (-8)) 12 64 (some 3) := by decide
theorem test_open_frame_written :
    encodeFrame (.openCursor 2 5 (BitVec.ofInt 16 (-8)) 12 64 (some 3)) =
      some (2, [0x00010501, 0x000CFFF8, 0x00000040, 0x00000003]) := by decide
theorem test_open_frame_short :
    parseFrame 2 [0x00010501, 0x000CFFF8, 0x00000040] = .badRequest 2 [0x00010501, 0x000CFFF8, 0x00000040] := by decide
theorem test_response_headers :
    (Response.plain .binding).words = [0x00000200] ∧ (Response.refused .badRequest).words = [0x00000102] ∧
      (Response.refused (.badArgument .segment)).words = [0x00040202] ∧
      (Response.refused (.cursorFaulted .noRight)).words = [0x00040702] := by decide
theorem test_placement_failed_words :
    (Response.done (.notice .placementFailed) false (auxField 0 0 false)
      (Notice.placementFailed 5 12 .noRight .opened).words).words = [0x00001100, 0x0000450C] := by decide
theorem test_stage_frame :
    parseFrame 0 [0x00380020, 0x0110A900] = .stage 0 none none none (some 0xA9) (some 16) (some true) := by decide
theorem test_setPort_frame :
    parseFrame 0 [0x000D0340, 0x00020401] = .setPort 0 3 (some 1) none (some 4) (some 2) := by decide
theorem test_pop_frame : parseFrame 1 [0x0F000711] = .pop 1 7 15 := by decide

/-! ### A small state -/

/-- A segment of 256 bytes, linked to segment 1, with holders. -/
def liveSeg : Descriptor where
  state := .live
  generation := 5
  base := 0x1000
  length := 256
  link := some 1
  rights := Vector.replicate 4 .readWrite
  depth := 16
  keep := true
  bindCount := 4
  retiringPort := none

def lastSeg : Descriptor := { liveSeg with base := 0x2000, length := 64, link := none, bindCount := 0, keep := false, depth := 0 }

def retiringSeg : Descriptor :=
  { liveSeg with state := .retiring, base := 0x3000, length := 64, link := none, bindCount := 1, retiringPort := some 1 }

/-- A cursor on segment 0. -/
def at0 (state : CursorState) (offset : Word) : Cursor where
  state := state
  segment := some 0
  generation := 5
  offset := offset
  stride := 8
  writeRight := true

/-- A context on segment 0. -/
def context0 (mark : Mark) : Context where
  segment := 0
  generation := 5
  offset := 248
  stride := 8
  writeRight := true
  side := none
  mark := mark

/-- RP0 has cursors in every state on segments 0 to 3, and one context; RP1 holds the last binding on segment 2. -/
def demo : State :=
  { State.reset with
    dt := (((Vector.replicate 128 Descriptor.reset).set 0 liveSeg).set 1 lastSeg).set 2 retiringSeg
    cursors := ⟨#v[
      #v[at0 .bound 0, at0 (.exhausted .atEnd) 256, at0 .revalidating 8, { at0 .crossing 0 with segment := some 1 },
        { at0 (.binding none) 0 with segment := some 3 }, { at0 (.faulted .notLive) 0 with segment := some 3 },
        Cursor.closed, Cursor.closed],
      #v[{ at0 .bound 48 with segment := some 2 }, Cursor.closed, Cursor.closed, Cursor.closed, Cursor.closed,
        Cursor.closed, Cursor.closed, Cursor.closed],
      Vector.replicate 8 Cursor.closed,
      Vector.replicate 8 Cursor.closed]⟩
    mapQueues := #v[[2, 3, 4], [], [], []]
    ctxStacks := #v[[context0 .valid], [], [], []] }

/-- demo with RP1 of TABLE authority and QUARANTINED. -/
def barred : State :=
  demo.setPort 1 { PortRec.reset .table with status := .quarantined, tally := 4 }

/-- demo with a staging record on RP0. -/
def staged (g : Staging) : State := demo.setPort 0 { PortRec.reset .table with staging := g }

/-- Base, length and rights staged, all valid. -/
def goodStaging : Staging :=
  { Staging.empty with base := some 0x4000, length := some 64, rights := some (Vector.replicate 4 .read) }

/-- The next state of a command. -/
def after (i : Instr) (s : State) : State :=
  match exec i s with
  | .next t => t
  | .fault _ => s
  | .refused _ => s

/-- The words owed on a port's link after a command. -/
def answerOf (i : Instr) (p : Port) (s : State) : Option (List Word) :=
  ((after i s).link p).owed.map Response.words

/-! ### One step of each command -/

theorem test_open :
    let t := after (.openCursor 0 6 8 1 16 (some 3)) demo
    t.cursor ⟨0, 6⟩ = ⟨.binding (some 3), some 1, 0, 16, 8, false⟩ ∧ t.mapQueue 0 = [2, 3, 4, 6] ∧
      answerOf (.openCursor 0 6 8 1 16 (some 3)) 0 demo = some [0x00000200] := by decide +kernel
theorem test_close :
    let t := after (.closeCursor 1 0) demo
    t.cursor ⟨1, 0⟩ = Cursor.closed ∧ (t.desc 2).state = .free ∧ (t.desc 2).generation = 6 ∧
      (t.noticeQueue 1).items = [.retireComplete 2 .graceful] := by decide +kernel
theorem test_seek :
    let t := after (.seek 0 1 240 none) demo
    t.cursor ⟨0, 1⟩ = at0 .bound 240 ∧ answerOf (.seek 0 1 240 none) 0 demo = some [0x00000304] := by decide +kernel
theorem test_read_miss :
    let t := after (.read 0 0 3) demo
    t.slot ⟨0, 0⟩ = .working .b8 ∧ t.buffer ⟨0, 0⟩ = .filling 0x1000 16 false .waiting ∧ t.fillList = [⟨0, 0⟩] ∧
      answerOf (.read 0 0 3) 0 demo = some [0x00000201] := by decide +kernel
theorem test_read_hit :
    answerOf (.read 0 0 1) 0 (demo.setBuffer ⟨0, 0⟩ (.valid 0x1000 16 [1, 2, 3, 4, 5, 6, 7, 8, 9, 10, 11, 12, 13, 14, 15, 16])) =
      some [0x00000300, 0x00000201] := by decide +kernel
theorem test_write :
    let t := after (.write 0 0 2 [0x44332211]) demo
    t.postQueue = [⟨0, 0, 0x1000, .b4, [0x11, 0x22, 0x33, 0x44], 0, 0, .queued⟩] ∧
      (t.cursor ⟨0, 0⟩).offset = 8 ∧ answerOf (.write 0 0 2 [0x44332211]) 0 demo = some [0x00000300] := by decide +kernel
theorem test_write_crossing :
    let t := after (.write 0 0 3 [1, 2]) (demo.setCursor ⟨0, 0⟩ (at0 .bound 248))
    t.cursor ⟨0, 0⟩ = { at0 .crossing 0 with segment := some 1 } ∧ (t.desc 0).bindCount = 3 ∧
      t.mapQueue 0 = [2, 3, 4, 0] := by decide +kernel
theorem test_queryCursor :
    answerOf (.queryCursor 0 1 0) 0 demo = some [0x00010400, 0x00080500, 0x00000100] ∧
      answerOf (.queryCursor 0 1 1) 0 demo = some [0x00010400, 0x00000003, 0] := by decide +kernel
theorem test_push :
    let t := after (.push 0 2) demo
    t.stack 0 = [⟨0, 5, 8, 8, true, none, .stale⟩, context0 .valid] ∧ (t.desc 0).bindCount = 5 ∧
      answerOf (.push 0 2) 0 demo = some [0x22000600] := by decide +kernel
theorem test_pop :
    let t := after (.pop 0 6 1) demo
    t.cursor ⟨0, 6⟩ = { at0 .crossing 0 with segment := some 1 } ∧ t.stack 0 = [] ∧ (t.desc 0).bindCount = 3 ∧
      answerOf (.pop 0 6 1) 0 demo = some [0x10000500] := by decide +kernel
theorem test_drop :
    (after (.drop 0) demo).stack 0 = [] ∧ ((after (.drop 0) demo).desc 0).bindCount = 3 ∧
      answerOf (.drop 0) 0 demo = some [0x10000000] ∧ answerOf (.drop 2) 2 demo = some [0x00001202] := by decide +kernel
theorem test_stage :
    ((after (.stage 0 (some 64) none (some 255) none none none) demo).port 0).staging =
      { Staging.empty with base := some 64, link := some none } := by decide +kernel
theorem test_commit_install :
    let t := after (.commit 0 3) (staged goodStaging)
    t.desc 3 = ⟨.live, 1, 0x4000, 64, none, Vector.replicate 4 .read, 0, false, 0, none⟩ ∧
      (t.port 0).staging = Staging.empty := by decide +kernel
theorem test_commit_replace :
    let t := after (.commit 0 0) (staged { Staging.empty with depth := some 64 })
    (t.desc 0).depth = 64 ∧ (t.desc 0).generation = 6 ∧ t.mapQueue 0 = [2, 3, 4, 0, 1] ∧
      t.stack 0 = [context0 .stale] := by decide +kernel
theorem test_retire_graceful :
    let t := after (.retire 0 0 0) demo
    (t.desc 0).state = .retiring ∧ (t.desc 0).retiringPort = some 0 ∧
      answerOf (.retire 0 0 0) 0 demo = some [0x00000B00, 5] := by decide +kernel
theorem test_retire_forced :
    let t := after (.retire 0 1 0) demo
    t.desc 0 = { Descriptor.reset with generation := 6 } ∧ (t.cursor ⟨0, 1⟩).state = .faulted .revoked ∧
      t.mapQueue 0 = [3, 4] ∧ t.stack 0 = [context0 .revoked] ∧ (t.noticeQueue 0).items = [.revoked 0 3 1] := by
  decide +kernel
theorem test_querySegment :
    answerOf (.querySegment 3 0 2) 3 demo = some [0x00000000, 0x05010205, 0x0110AAFF] ∧
      answerOf (.querySegment 3 1 0) 3 demo = some [0x00000000, 0x00001000, 0x00000405] := by decide +kernel
theorem test_fetchNotice :
    answerOf (.fetchNotice 2) 2 (demo.setNotices 2 ⟨[.portReleased, .portQuarantined 1], true⟩) = some [0x81001700] ∧
      answerOf (.fetchNotice 2) 2 demo = some [0x00001000] := by decide +kernel
theorem test_setPort :
    answerOf (.setPort 0 1 none (some 1) (some 0) none) 0 barred = some [0x00000900, 0x04110005] ∧
      answerOf (.setPort 0 0 (some 0) none none none) 0 demo = some [0x00001702] := by decide +kernel
theorem test_releasePort :
    (after (.releasePort 0 1) barred).port 1 = PortRec.reset .table ∧
      (after (.releasePort 0 1) barred).noticeQueue 1 = ⟨[.portReleased], false⟩ := by decide +kernel
theorem test_resetPort :
    let t := after (.resetPort 0 1) barred
    (t.port 1).status = .active ∧ (t.desc 2).state = .free ∧ (t.noticeQueue 1).items = [.retireComplete 2 .graceful] := by
  decide +kernel
theorem test_badRequest : answerOf (.badRequest 3 [0xFF]) 3 demo = some [0x00000102] := by decide +kernel
theorem test_placementService :
    let t := after .placementService (demo.setMapQueue 0 [3, 4, 2])
    t.cursor ⟨0, 3⟩ = ⟨.bound, some 1, 5, 0, 8, true⟩ ∧ (t.desc 1).bindCount = 1 ∧ t.mapQueue 0 = [4, 2] ∧
      t.markLow = 0 := by decide +kernel
theorem test_placementService_fails :
    let t := after .placementService (demo.setMapQueue 0 [4, 2, 3])
    (t.cursor ⟨0, 4⟩).state = .faulted .notLive ∧ (t.noticeQueue 0).items = [.placementFailed 4 3 .notLive .opened] := by
  decide +kernel

/-- demo with a fill at memory under tag 0. -/
def inFlight : State := after (.grant true) (after (.responseLastWordPassed 0) (after (.read 0 0 3) demo))

theorem test_grant :
    inFlight.tag 0 = .busy (.fill ⟨0, 0⟩) 16 (.running 65536) ∧ inFlight.memRequest = some ⟨.read, 0, 0x1000, 16, none⟩ ∧
      inFlight.memRequest.map MemRequest.lines = some ⟨0, 0, 0x1000, 4, none⟩ ∧
      inFlight.buffer ⟨0, 0⟩ = .filling 0x1000 16 false .inFlight ∧ inFlight.alternation = .writeNext := by decide +kernel
theorem test_firstBeat :
    (after (.responseFirstBeat 0 false 7) inFlight).tag 0 = .busy (.fill ⟨0, 0⟩) 16 .stopped := by decide +kernel
theorem test_memoryResponse :
    let t := after (.memoryResponse 0 false [0x0807060504030201, 9]) inFlight
    t.tag 0 = .free ∧ t.slot ⟨0, 0⟩ = .ready .b8 (.data [1, 2, 3, 4, 5, 6, 7, 8]) .p16384 ∧
      answerOf (.read 0 0 3) 0 t = some [0x00000300, 0x04030201, 0x08070605] := by decide +kernel
theorem test_memoryResponse_short :
    (after (.memoryResponse 0 false [1]) inFlight).slot ⟨0, 0⟩ = .ready .b8 .memoryError .p16384 := by decide +kernel
theorem test_responseTimerExpiry :
    let t := after (.responseTimerExpiry 0) inFlight
    t.tag 0 = .abandoned ∧ t.slot ⟨0, 0⟩ = .ready .b8 .memoryTimeout .p16384 := by decide +kernel
theorem test_lateOrStray :
    (after (.lateOrStrayResponse 0 false [1]) (inFlight.setTag 0 .abandoned)).tag 0 = .free := by decide +kernel

/-- RP1 one expiry short of its limit, a result held on its cursor 0. -/
def held : State :=
  (demo.setSlot ⟨1, 0⟩ (.ready .b4 .memoryError .p16384)).setPort 1 { PortRec.reset .ordinary with tally := 3 }

theorem test_discardTimerExpiry :
    let t := after (.discardTimerExpiry 1 0) held
    (t.port 1).status = .quarantined ∧ (t.port 1).tally = 4 ∧ t.slot ⟨1, 0⟩ = .empty ∧
      (t.noticeQueue 1).items = [.readDiscarded 0 2 48, .portQuarantined 1] ∧
      (t.noticeQueue 0).items = [.portQuarantined 1] ∧ (t.noticeQueue 2).items = [] := by decide +kernel
theorem test_deviceReset :
    (after (.deviceReset 0) demo) = State.reset ∧ ((after (.deviceReset 8) demo).port 3).authority = .table ∧
      ((after (.deviceReset 8) demo).port 0).authority = .ordinary := by decide +kernel
theorem test_lastWordPassed :
    let t := after (.responseLastWordPassed 0) (after (.read 0 0 3) demo)
    t.requestReady 0 = true ∧ (after (.read 0 0 3) demo).requestReady 0 = false := by decide +kernel
theorem test_request_waits :
    let s := after (.drop 0) (after (.read 0 0 3) demo)
    let t := after (.responseLastWordPassed 0) { s with pending := [.push 0 0] }
    (s.link 0).waiting = [.drop 0] ∧ s.stack 0 = [context0 .valid] ∧ t.pending = [.drop 0, .push 0 0] ∧
      (t.link 0).waiting = [] ∧ (after (.deviceReset 0) s).pending = [.drop 0] := by decide +kernel
/-- Two TABLE ports, the other one QUARANTINED: the demotion is DONE (log entry 17). -/
theorem test_setPort_demotes_beside_a_quarantined_port :
    answerOf (.setPort 0 0 (some 0) none none none) 0 barred = some [0x00000800, 0x00010400] := by decide +kernel

/-! ### Witnesses: states and operands that meet the hypotheses of each obligation -/

/-- demo with a response owed on RP0. -/
def owing : State := demo.answer 0 (.plain .noState)

/-- demo with every notice queue, stack and the Post Queue full for RP0. -/
def full : State :=
  ((demo.setNotices 0 ⟨List.replicate 8 .portReleased, true⟩).setStack 0 (List.replicate 8 (context0 .valid))).setPostQueue
    (List.replicate 16 ⟨0, 0, 0x2000, .b4, [0, 0, 0, 0], 1, 0, .queued⟩)

theorem witness_StepRunsTheFrontCommand : State.reset.pending = [] := by decide +kernel
theorem witness_EveryCommandCompletes : (Instr.drop 3).requestPort = some 3 ∧ demo.requestReady 3 = true := by
  decide +kernel
theorem witness_LinkOwesOneResponse :
    (Instr.drop 0).requestPort = some 0 ∧ owing.requestReady 0 = false ∧
      ((after (.drop 0) owing).link 0).waiting = .drop 0 :: [] := by decide +kernel
theorem witness_BadRequestChangesNothing :
    demo.requestReady 0 = true ∧ (Instr.write 0 0 3 [1]).wf = false ∧ (Instr.write 0 0 0 []).wf = false := by decide +kernel
theorem witness_FrameLengthsAreJudged :
    (Frame.code 0x00004005 = 0x05 ∧ 4 ≤ (Frame.size 0x00004005).toNat ∧ 4 ≤ (Frame.size 0x00007005).toNat) ∧
      [(1 : Word), 2, 3].length ≤ 3 ∧ demo.requestReady 0 = true := by decide +kernel
theorem witness_UnusedHeaderBitsAreIgnored :
    (0xFFFFF302 : Word) &&& Frame.readBits (Frame.code 0xFFFFF302).toNat =
        (0x00000302 : Word) &&& Frame.readBits (Frame.code 0xFFFFF302).toNat ∧
      Frame.callsFor 0xFFFFF302 0 ∧ Frame.callsFor 0x00200020 1 ∧
      List.zipWith (fun a b => a &&& b) [0xFFFFFFFF] (Frame.argBits 0x00200020) =
        List.zipWith (fun a b => a &&& b) [(0x01000000 : Word)] (Frame.argBits 0x00200020) ∧
      demo.requestReady 0 = true ∧ (0 : BitVec 3).toNat ≤ 2 ∧ (2 : BitVec 3).toNat ≤ 2 ∧
      (0xFFFFFF07 : Word).extractLsb' 0 (8 * (accessSize 0).bytes) =
        (0x00000007 : Word).extractLsb' 0 (8 * (accessSize 0).bytes) :=
  ⟨by decide, rfl, rfl, by decide, by decide +kernel, by decide, by decide, by decide⟩
theorem witness_FrameOfEveryRequestReadsBack :
    (Instr.write 3 15 7 [1, 2, 3]).wf = true ∧
      encodeFrame (.write 3 15 7 [1, 2, 3]) = some (3, [0x00007F05, 1, 2, 3]) := by decide
theorem witness_DataWordsAreLittleEndian :
    [(1 : Byte)].length = AccessSize.b1.bytes ∧ (List.replicate 8 (255 : Byte)).length = AccessSize.b8.bytes := by decide
theorem witness_FieldsOutOfRangeAreRefused :
    demo.requestReady 0 = true ∧
      ((Instr.releasePort 0 4).requestPort = some 0 ∧ (Instr.releasePort 0 4).wf = true ∧
        (Instr.releasePort 0 4).firstOutOfRange = some .target ∧
        (Instr.write 0 7 4 [1, 2, 3]).firstOutOfRange = some .size ∧
        (Instr.seek 0 7 16777216 (some 129)).firstOutOfRange = some .offset ∧
        (Instr.setPort 0 3 (some 1) (some 2) (some 16) (some 3)).firstOutOfRange = some .priority ∧
        (Instr.setPort 0 3 (some 1) (some 1) (some 15) (some 3)).firstOutOfRange = some .discardInterval) ∧
      ¬ (Instr.openCursor 0 8 129 128 16777216 none).FieldsInRange ∧
      ¬ (Instr.openCursor 0 7 (BitVec.ofInt 16 (-129)) 128 0 none).FieldsInRange ∧
      ¬ (Instr.openCursor 0 7 128 128 0 none).FieldsInRange ∧
      ¬ (Instr.openCursor 0 7 (BitVec.ofInt 16 (-128)) 127 16777216 none).FieldsInRange ∧
      ¬ (Instr.stage 0 none none (some 254) (some 0xFF) (some 65) none).FieldsInRange ∧
      ¬ (Instr.stage 0 none none (some 255) (some 0xC0) (some 65) none).FieldsInRange ∧
      ¬ (Instr.stage 0 none none (some 127) (some 0xAA) (some 65) none).FieldsInRange := by
  refine ⟨by decide +kernel, by decide, ?_, ?_, ?_, ?_, ?_, ?_, ?_⟩
  · simp [Instr.FieldsInRange]
  · simp [Instr.FieldsInRange, StrideOk]
  · simp [Instr.FieldsInRange]
  · simp [Instr.FieldsInRange]
  · simp [Instr.FieldsInRange]
  · intro h
    have := h.2.1 _ rfl 3
    exact absurd this (by decide)
  · simp [Instr.FieldsInRange]
theorem witness_AuthorityThenQuarantineAreChecked :
    (Instr.commit 2 0).requestPort = some 2 ∧ (Instr.commit 2 0).wf = true ∧ demo.requestReady 2 = true ∧
      (Instr.commit 2 0).FieldsInRange ∧ (Instr.commit 2 0).NeedsTable ∧ (demo.port 2).authority = .ordinary ∧
      (Instr.resetPort 1 0).FieldsInRange ∧ (Instr.resetPort 1 0).NeedsTable ∧
      (Instr.resetPort 1 0).BarredInQuarantine ∧ barred.requestReady 1 = true ∧
      (barred.port 1).authority = .table ∧ (barred.port 1).status = .quarantined := by
  refine ⟨rfl, rfl, by decide +kernel, by simp [Instr.FieldsInRange], trivial, by decide +kernel,
    by simp [Instr.FieldsInRange], by simp [Instr.NeedsTable], by simp [Instr.BarredInQuarantine], ?_⟩
  decide +kernel
theorem demo_admits (b : Bool) : demo.Admits 0 true b := by
  cases b <;> unfold State.Admits <;> decide +kernel
theorem demo_admits' (b : Bool) : demo.Admits 0 false b := by
  cases b <;> unfold State.Admits <;> decide +kernel
theorem witness_StageWritesTheFieldsNamed :
    demo.Admits 0 true false ∧
      (Instr.stage 0 (some 0) none (some 127) (some 0xAA) (some 64) (some true)).FieldsInRange := by
  refine ⟨demo_admits false, ?_, ?_, ?_⟩
  · simp
  · intro x hx q
    cases hx
    revert q
    decide
  · simp
theorem witness_CommitInstallsOnFree :
    (staged goodStaging).Admits 0 true false ∧ (127 : BitVec 8).toNat < 128 ∧
      ((staged goodStaging).desc (segNo 127)).state = .free ∧ ((staged goodStaging).port 0).staging = goodStaging ∧
      goodStaging.base = some 0x4000 ∧ goodStaging.length = some 64 ∧
      goodStaging.rights = some (Vector.replicate 4 .read) ∧ (0x4000 : Word).toNat % 64 = 0 ∧
      0x4000 + 64 ≤ 4294967296 ∧ goodStaging.depth.getD 0 ∈ [0, 16, 32, 64] := by
  unfold State.Admits; decide +kernel

/-- Depth 64 staged over segment 0. -/
def depthStaging : Staging := { Staging.empty with depth := some 64 }

theorem witness_CommitReplacesOnLive :
    let s := staged depthStaging
    let g := (s.port 0).staging
    let d := s.desc (segNo 0)
    let n := (g.length.map (fun x => x.toNat)).getD d.length
    s.Admits 0 true false ∧ (0 : BitVec 8).toNat < 128 ∧ d.state = .live ∧ g ≠ Staging.empty ∧
      (g.base.getD d.base).toNat % 64 = 0 ∧ 64 ≤ n ∧ n ≤ 16777216 ∧ n % 64 = 0 ∧
      (g.base.getD d.base).toNat + n ≤ 4294967296 ∧ g.depth.getD d.depth ∈ [0, 16, 32, 64] := by
  unfold State.Admits; decide +kernel
theorem witness_ReplacementReachesEveryHolder :
    let s := staged depthStaging
    let g := (s.port 0).staging
    let d := s.desc (segNo 0)
    s.Admits 0 true false ∧ (0 : BitVec 8).toNat < 128 ∧ d.state = .live ∧ g ≠ Staging.empty ∧
      validateRecord (g.base.getD d.base) ((g.length.map (fun x => x.toNat)).getD d.length) (g.depth.getD d.depth) =
        none ∧
      (s.cursor ⟨0, 0⟩).segment = some 0 ∧ (s.cursor ⟨0, 0⟩).state = .bound ∧
      (s.cursor ⟨0, 3⟩).segment ≠ some 0 := by
  unfold State.Admits; decide +kernel
theorem witness_CommitRefusalsInOrder :
    let r1 := staged goodStaging
    let r2 := staged { goodStaging with base := none }
    let r3 := staged { goodStaging with length := none }
    let r4 := staged { goodStaging with rights := none }
    let r5 := staged { goodStaging with base := some 0xFFFFFFC0, length := some 128 }
    (demo.port 0).staging = Staging.empty ∧ (r1.desc (segNo 2)).state = .retiring ∧
      (r1.port 0).staging ≠ Staging.empty ∧ (r2.port 0).staging ≠ Staging.empty ∧ (r2.port 0).staging.base = none ∧
      (r2.desc (segNo 3)).state = .free ∧ (r3.port 0).staging.length = none ∧ (r4.port 0).staging.rights = none ∧
      (r5.port 0).staging.base = some 0xFFFFFFC0 ∧ (r5.port 0).staging.length = some 128 ∧
      4294967296 < (0xFFFFFFC0 : Word).toNat + 128 ∧ (r5.desc (segNo 0)).state = .live ∧
      r1.Admits 0 true false ∧ r5.Admits 0 true false := by
  unfold State.Admits; decide +kernel
theorem witness_RetireWithoutRevocation :
    demo.Admits 0 true false ∧ (1 : BitVec 8).toNat < 2 ∧ (demo.desc (segNo 127)).state = .free ∧
      (demo.desc (segNo 1)).state = .live ∧ (demo.desc (segNo 1)).bindCount = 0 ∧
      (demo.desc (segNo 0)).state = .live ∧ (demo.desc (segNo 0)).bindCount ≠ 0 ∧
      (demo.desc (segNo 2)).state = .retiring := by
  unfold State.Admits; decide +kernel
theorem witness_ForcedRetireRevokesEveryHolder :
    demo.Admits 0 true false ∧ (demo.desc (segNo 2)).state = .retiring ∧ (demo.desc (segNo 0)).state = .live ∧
      (demo.desc (segNo 0)).bindCount ≠ 0 := by
  unfold State.Admits; decide +kernel
theorem witness_QuerySegmentReportsTheRecord :
    barred.Admits 1 false true ∧ (127 : BitVec 8).toNat < 128 ∧ (0 : BitVec 8).toNat < 2 ∧ (1 : BitVec 8).toNat < 2 ∧
      (barred.desc (segNo 0)).bindCount ≤ 64 ∧ (barred.desc (segNo 0)).depth ≤ 64 ∧
      (barred.desc (segNo 0)).length ≤ 16777216 := by
  unfold State.Admits; decide +kernel
theorem witness_OpenQueuesTheCursor :
    demo.Admits 0 false false ∧ (Instr.openCursor 0 6 (BitVec.ofInt 16 (-128)) 127 16777215 (some 255)).FieldsInRange ∧
      (demo.cursor (cursorOf 0 6)).state = .closed ∧ (∃ r, (demo.cursor (cursorOf 0 5)).state = .faulted r) := by
  refine ⟨demo_admits' false, by simp [Instr.FieldsInRange, StrideOk], by decide +kernel, .notLive, by decide +kernel⟩
theorem witness_CursorStatesRefuse :
    demo.Admits 0 false false ∧ (Instr.openCursor 0 0 128 0 0 none).FieldsInRange ∧
      (Instr.seek 0 0 256 (some 128)).FieldsInRange ∧ (demo.cursor (cursorOf 0 0)).state = .bound ∧
      (demo.cursor (cursorOf 0 1)).state = .exhausted .atEnd ∧ (demo.cursor (cursorOf 0 2)).state = .revalidating ∧
      (demo.cursor (cursorOf 0 3)).state = .crossing ∧ (demo.cursor (cursorOf 0 4)).state = .binding none ∧
      (demo.cursor (cursorOf 0 5)).state = .faulted .notLive ∧ (demo.cursor (cursorOf 0 6)).state = .closed ∧
      (demo.cursor (cursorOf 0 0)).segment = some 0 ∧ (demo.desc 0).length ≤ (256 : Word).toNat ∧
      full.Admits 0 false false ∧ 8 ≤ (full.stack 0).length ∧ demo.Admits 2 false false ∧ demo.stack 2 = [] ∧
      (15 : BitVec 8).toNat < 16 := by
  refine ⟨demo_admits' false, by simp [Instr.FieldsInRange, StrideOk], by simp [Instr.FieldsInRange, StrideOk], ?_⟩
  unfold State.Admits
  decide +kernel
theorem witness_SeekMovesTheCursor :
    demo.Admits 0 false false ∧ (Instr.seek 0 1 255 none).FieldsInRange ∧
      (demo.cursor (cursorOf 0 0)).state = .bound ∧ (∃ e, (demo.cursor (cursorOf 0 1)).state = .exhausted e) ∧
      (demo.cursor (cursorOf 0 1)).segment = some 0 ∧ (255 : Word).toNat < (demo.desc 0).length := by
  refine ⟨demo_admits' false, by simp [Instr.FieldsInRange], by decide +kernel, ⟨.atEnd, by decide +kernel⟩, ?_⟩
  decide +kernel
theorem witness_CloseLetsGo :
    demo.Admits 0 false true ∧ (7 : BitVec 4).toNat < 8 ∧ (demo.cursor (cursorOf 0 7)).state = .closed ∧
      (demo.cursor (cursorOf 0 2)).state = .revalidating ∧ (demo.cursor (cursorOf 0 2)).segment = some 0 ∧
      (demo.cursor (cursorOf 0 3)).state = .crossing ∧ (demo.cursor (cursorOf 0 0)).state = .bound := by
  unfold State.Admits; decide +kernel
theorem witness_QueryCursorReportsTheCursor :
    barred.Admits 1 false true ∧ (7 : BitVec 4).toNat < 8 ∧ (0 : BitVec 8).toNat < 2 ∧ (1 : BitVec 8).toNat < 2 := by
  unfold State.Admits; decide +kernel

/-- demo with cursor 0 of RP0 at an offset of segment 0. -/
def placed (offset : Word) : State := demo.setCursor ⟨0, 0⟩ (at0 .bound offset)

theorem witness_AccessesAreJudgedInOrder :
    demo.Admits 0 false false ∧ (Instr.write 0 0 3 [1, 2]).wf = true ∧ accessSize 3 = .b8 ∧
      ((placed 252).desc 0).length < ((placed 252).cursor ⟨0, 0⟩).offset.toInt + 8 ∧
      ((placed 244).cursor ⟨0, 0⟩).offset.toInt + 8 ≤ ((placed 244).desc 0).length ∧
      ((placed 244).cursor ⟨0, 0⟩).offset.toNat % 8 ≠ 0 ∧ (placed 248).AccessPasses ⟨0, 0⟩ 0 .b8 ∧
      (placed 248).slot ⟨0, 0⟩ = .empty ∧ ((placed 248).cursor ⟨0, 0⟩).writeRight = true ∧
      full.AccessPasses ⟨0, 0⟩ 0 .b8 ∧ full.slot ⟨0, 0⟩ = .empty ∧ 16 ≤ full.postQueue.length ∧
      (demo.cursor (cursorOf 0 5)).state = .faulted .notLive ∧
      (demo.cursor (cursorOf 0 1)).state = .exhausted .atEnd := by
  unfold State.Admits State.AccessPasses; decide +kernel
theorem witness_EdgeMarksTheLastSixteenBytes :
    (Instr.push 0 0).requestPort = some 0 ∧ demo.requestReady 0 = true ∧
      (∀ t z, Instr.push 0 0 ≠ .read 0 t z) ∧ (∃ o x, Instr.seek 0 1 240 none = .seek 0 1 o x) ∧
      (∀ st edge aux data, Response.wait .mapping ≠ .done st edge aux data) ∧
      edgeFlag 256 (at0 .bound 240) = true ∧ edgeFlag 256 (at0 .bound 239) = false :=
  ⟨rfl, by decide +kernel, by simp, ⟨_, _, rfl⟩, by simp, by decide, by decide⟩

/-- Bytes 0 to n - 1. -/
def ramp (n : Nat) : List Byte := (List.range n).map (fun i => BitVec.ofNat 8 i)

theorem witness_ReadHitDeliversAndAdvances :
    let s := (placed 248).setBuffer ⟨0, 0⟩ (.valid 0x10F0 16 (ramp 16))
    s.Admits 0 false false ∧ s.AccessPasses ⟨0, 0⟩ 0 .b8 ∧ s.slot ⟨0, 0⟩ = .empty ∧
      s.buffer ⟨0, 0⟩ = .valid 0x10F0 16 (ramp 16) ∧ 0x10F0 ≤ 0x10F8 ∧ 0x10F8 + 8 ≤ 0x10F0 + 16 ∧
      (s.desc 0).base + (s.cursor ⟨0, 0⟩).offset = 0x10F8 := by
  unfold State.Admits State.AccessPasses; decide +kernel
theorem witness_ReadMissStartsAFill :
    let s := (placed 248).setBuffer ⟨0, 0⟩ (.valid 0x10E0 16 (ramp 16))
    let v := (placed 248).setBuffer ⟨0, 0⟩ (.filling 0x10E0 16 true .inFlight)
    s.Admits 0 false false ∧ s.AccessPasses ⟨0, 0⟩ 0 .b8 ∧ s.slot ⟨0, 0⟩ = .empty ∧ ¬ 0x10F8 + 8 ≤ 0x10E0 + 16 ∧
      (placed 248).buffer ⟨0, 0⟩ = .empty ∧ v.AccessPasses ⟨0, 0⟩ 0 .b8 ∧
      v.buffer ⟨0, 0⟩ = .filling 0x10E0 16 true .inFlight := by
  unfold State.Admits State.AccessPasses; decide +kernel
theorem witness_ReadOfABusySlot :
    let w := demo.setSlot ⟨0, 0⟩ (.working .b8)
    let r := demo.setSlot ⟨0, 0⟩ (.ready .b4 .memoryError .p1024)
    w.Admits 0 false false ∧ w.AccessPasses ⟨0, 0⟩ 0 .b8 ∧ w.slot ⟨0, 0⟩ = .working .b8 ∧ AccessSize.b8 ≠ .b4 ∧
      r.AccessPasses ⟨0, 0⟩ 0 .b8 ∧ r.slot ⟨0, 0⟩ = .ready .b4 .memoryError .p1024 := by
  unfold State.Admits State.AccessPasses; decide +kernel
theorem witness_CollectionDeliversAndAdvances :
    let s := (demo.setSlot ⟨0, 0⟩ (.ready .b8 (.data (ramp 8)) .p1024)).setBuffer ⟨0, 0⟩ (.valid 0x1000 16 (ramp 16))
    s.Admits 0 false false ∧ s.AccessPasses ⟨0, 0⟩ 0 .b8 ∧ s.slot ⟨0, 0⟩ = .ready .b8 (.data (ramp 8)) .p1024 ∧
      s.buffer ⟨0, 0⟩ = .valid 0x1000 16 (ramp 16) := by
  unfold State.Admits State.AccessPasses; decide +kernel
theorem witness_FailureIsCollectedOnce :
    let s := demo.setSlot ⟨0, 0⟩ (.ready .b8 .memoryTimeout .p1024)
    s.Admits 0 false false ∧ s.AccessPasses ⟨0, 0⟩ 0 .b8 ∧
      (ReadResult.memoryTimeout, Reason.memoryTimeout) ∈
        [(ReadResult.memoryError, Reason.memoryError), (ReadResult.memoryTimeout, Reason.memoryTimeout)] ∧
      s.slot ⟨0, 0⟩ = .ready .b8 .memoryTimeout .p1024 := by
  unfold State.Admits State.AccessPasses; decide +kernel
theorem witness_WriteIsPosted :
    let e : PostEntry := ⟨0, 0, 0x2000, .b4, [0, 0, 0, 0], 1, 0, .queued⟩
    let s := ((demo.setPostQueue (List.replicate 15 e)).setBuffer ⟨0, 0⟩ (.valid 0x1000 16 (ramp 16))).setBuffer ⟨1, 0⟩
      (.filling 0x1008 16 false .waiting)
    s.Admits 0 false false ∧ (Instr.write 0 0 3 [1, 2]).wf = true ∧ s.AccessPasses ⟨0, 0⟩ 0 .b8 ∧
      (s.cursor ⟨0, 0⟩).writeRight = true ∧ s.slot ⟨0, 0⟩ = .empty ∧ s.postQueue.length < 16 := by
  unfold State.Admits State.AccessPasses; decide +kernel
theorem witness_ServiceChoosesByPriorityAndRotation :
    demo.pickPort = some (0, .low) ∧ State.reset.pickPort = none ∧
      (demo.setPort 0 { PortRec.reset .table with priority := .high }).pickPort = some (0, .high) := by decide +kernel
theorem witness_WalkFollowsAtMostFourLinks :
    4 ≤ 4 ∧ walk demo 0 4 0 256 = .bound 1 0 ∧ walk demo 0 0 0 256 = .failed 1 0 .chainTooLong ∧
      walk demo 0 0 0 (-1) = .exhausted 0 (-1) .atStart ∧ walk demo 0 0 1 64 = .exhausted 1 64 .atEnd ∧
      walk demo 0 0 2 0 = .failed 2 0 .segmentRetiring ∧ walk demo 0 0 3 0 = .failed 3 0 .notLive ∧
      (4 : BitVec 8) ≠ (demo.desc 0).generation := by decide +kernel
theorem witness_ServicePlacesTheHeadCursor :
    State.reset.pickPort = none ∧ demo.pickPort = some (0, .low) ∧ demo.mapQueue 0 = 2 :: [3, 4] ∧
      (demo.cursor ⟨0, 2⟩).segment = some 0 ∧ (demo.cursor ⟨0, 2⟩).state.isMapping = true ∧
      (demo.cursor ⟨0, 2⟩).state = .revalidating ∧ (demo.desc 0).state ≠ .free ∧
      (demo.setMapQueue 0 [3, 4, 2]).pickPort = some (0, .low) ∧ (demo.cursor ⟨0, 3⟩).state = .crossing ∧
      (demo.cursor ⟨0, 3⟩).segment = some 1 ∧ (demo.setMapQueue 0 [4, 2, 3]).pickPort = some (0, .low) ∧
      (demo.cursor ⟨0, 4⟩).state = .binding none ∧ (demo.cursor ⟨0, 4⟩).segment = some 3 := by decide +kernel
theorem witness_PushSavesAContext :
    let s := demo.setStack 0 (List.replicate 7 (context0 .revoked))
    s.Admits 0 false false ∧ (s.stack 0).length < 8 ∧ (s.cursor (cursorOf 0 0)).state = .bound ∧
      (s.cursor (cursorOf 0 0)).segment = some 0 ∧ (s.cursor (cursorOf 0 1)).state = .exhausted .atEnd ∧
      (s.cursor (cursorOf 0 1)).segment = some 0 ∧ (s.cursor (cursorOf 0 2)).state = .revalidating ∧
      (s.cursor (cursorOf 0 2)).segment = some 0 := by
  unfold State.Admits; decide +kernel
theorem witness_PopRestoresAValidContext :
    demo.Admits 0 false false ∧ (15 : BitVec 8).toNat < 16 ∧ (demo.cursor (cursorOf 0 0)).state.isMapping = false ∧
      (demo.cursor (cursorOf 0 0)).state = .bound ∧ (demo.cursor (cursorOf 0 6)).state = .closed ∧
      demo.stack 0 = context0 .valid :: [] ∧ (context0 .valid).mark = .valid := by
  unfold State.Admits; decide +kernel
theorem witness_PopRestoresAMarkedContext :
    let s := demo.setStack 0 [context0 .stale]
    let r := demo.setStack 0 [context0 .revoked]
    s.Admits 0 false false ∧ (15 : BitVec 8).toNat < 16 ∧ (s.cursor (cursorOf 0 5)).state.isMapping = false ∧
      s.stack 0 = context0 .stale :: [] ∧ (context0 .stale).mark ≠ .valid ∧
      -2147483648 ≤ (context0 .stale).offset.toInt + (15 : BitVec 8).toNat * (context0 .stale).stride.toInt ∧
      (context0 .stale).offset.toInt + (15 : BitVec 8).toNat * (context0 .stale).stride.toInt ≤ 2147483647 ∧
      r.stack 0 = context0 .revoked :: [] ∧ (context0 .revoked).mark = .revoked := by
  unfold State.Admits; decide +kernel
theorem witness_DropRemovesTheTopContext :
    demo.Admits 0 false true ∧ demo.stack 0 = context0 .valid :: [] ∧ (context0 .valid).mark ≠ .revoked ∧
      barred.Admits 1 false true ∧ barred.stack 1 = [] ∧
      (demo.setStack 0 [context0 .revoked]).stack 0 = context0 .revoked :: [] := by
  unfold State.Admits; decide +kernel
theorem witness_FetchTakesTheOldestNotice :
    full.requestReady 0 = true ∧ (full.noticeQueue 0).items = .portReleased :: List.replicate 7 .portReleased ∧
      (demo.noticeQueue 0).items = [] ∧ (Notice.revoked 127 8 8).words = [0x0808007F] ∧
      (Notice.writeFailed 7 127 0xFFFFFFFF .b8 .memoryTimeout).words = [0x0003277F, 0xFFFFFFFF] := by decide +kernel
theorem witness_AppendsKeepTheOldestEight :
    (((demo.setNotices 0 ⟨List.replicate 7 .portReleased, false⟩)).noticeQueue 0).items.length < 8 ∧
      8 ≤ (full.noticeQueue 0).items.length := by decide +kernel
theorem witness_SetPortChangesTheSettingsGiven :
    demo.Admits 0 true false ∧ (Instr.setPort 0 0 (some 0) (some 1) (some 15) (some 2)).FieldsInRange ∧
      (demo.port (portNo 0)).authority = .table ∧ (∀ x : Port, x ≠ 0 → (demo.port x).authority ≠ .table) ∧
      barred.Admits 0 true false ∧ (∃ x : Port, x ≠ 0 ∧ (barred.port x).authority = .table) := by
  refine ⟨demo_admits false, by simp [Instr.FieldsInRange], by decide +kernel, by decide +kernel, ?_, 1, by decide +kernel⟩
  unfold State.Admits; decide +kernel
theorem witness_ReleasePortEndsQuarantine :
    barred.Admits 0 true false ∧ (3 : BitVec 4).toNat < 4 ∧ (barred.port (portNo 3)).status = .active ∧
      (barred.port (portNo 1)).status = .quarantined := by
  unfold State.Admits; decide +kernel
theorem witness_ResetPortClearsThePort :
    barred.requestReady 1 = true ∧ portNo 1 = (1 : Port) ∧ barred.requestReady 0 = true ∧
      (barred.port 0).authority = .table ∧ (barred.port 0).status = .active ∧
      (barred.cursor ⟨1, 0⟩).state ≠ .closed ∧ (barred.desc 2).state = .retiring ∧
      barred.heldCursors 1 2 + barred.heldContexts 1 2 = (barred.desc 2).bindCount ∧
      (barred.cursor ⟨1, 7⟩).state = .closed ∧ barred.portBindings 1 = [2] := by decide +kernel
theorem witness_GrantGivesTheLowestFreeTag :
    let f := (demo.setTag 0 .abandoned).setBuffer ⟨0, 0⟩ (.filling 0x1000 16 true .waiting)
    let s := { f with fillList := [⟨0, 0⟩], postQueue := [⟨0, 0, 0x2000, .b4, [0, 0, 0, 0], 1, 0, .queued⟩] }
    s.tag 1 = .free ∧ (∀ m : TagNo, m < 1 → s.tag m ≠ .free) ∧ s.fillCandidate = some ⟨0, 0⟩ ∧
      s.buffer ⟨0, 0⟩ = .filling 0x1000 16 true .waiting ∧ s.alternation = .fillNext ∧
      s.writeCandidate = some ⟨0, 0, 0x2000, .b4, [0, 0, 0, 0], 1, 0, .queued⟩ ∧
      (s.setAlternation .writeNext).alternation = .writeNext ∧ 1 = 2 ^ 0 ∧ 64 = 2 ^ 6 := by decide +kernel
theorem witness_EventsWithoutCauseChangeNothing :
    (∀ n : TagNo, ({ demo with tags := Vector.replicate 8 .abandoned }).tag n ≠ .free) ∧ demo.fillCandidate = none ∧
      demo.writeCandidate = none ∧ demo.tag 7 = .free ∧ demo.slot ⟨3, 7⟩ = .empty ∧
      (demo.setRespChannel .discarding).respChannel ≠ .idle := by decide +kernel
theorem witness_FirstBeatStopsTheTimer :
    inFlight.respChannel = .idle ∧ inFlight.tag 0 = .busy (.fill ⟨0, 0⟩) 16 (.running 65536) ∧
      (inFlight.setTag 0 .abandoned).tag 0 = .abandoned ∧ inFlight.tag 7 = .free := by decide +kernel
theorem witness_ResponseIsDeliveredToItsOwner :
    inFlight.tag 0 = .busy (.fill ⟨0, 0⟩) 16 (.running 65536) ∧ inFlight.respChannel = .idle ∧
      (after (.responseFirstBeat 0 false 7) inFlight).tag 0 = .busy (.fill ⟨0, 0⟩) 16 .stopped ∧
      (after (.responseFirstBeat 0 false 7) inFlight).respChannel = .begun 0 false 7 ∧
      (∀ i : Instr, i = .lateOrStrayResponse 5 true [7, 9] →
        (after i (after (.responseFirstBeat 0 false 7) inFlight)).tag 0 = .free) := by
  refine ⟨by decide +kernel, by decide +kernel, by decide +kernel, by decide +kernel, ?_⟩
  rintro i rfl
  decide +kernel
theorem witness_LateAndStrayResponsesDeliverNothing :
    inFlight.respChannel = .idle ∧ (inFlight.setTag 0 .abandoned).tag 0 = .abandoned ∧ inFlight.tag 7 = .free ∧
      (after (.responseFirstBeat 7 false 7) inFlight).respChannel = .discarding := by
  decide +kernel
theorem witness_ResponseTimeoutAbandonsTheTag : inFlight.tag 0 = .busy (.fill ⟨0, 0⟩) 16 (.running 65536) := by
  decide +kernel
theorem witness_DiscardIsCountedAndMayQuarantine :
    held.slot ⟨1, 0⟩ = .ready .b4 .memoryError .p16384 ∧ (held.cursor ⟨1, 0⟩).segment = some 2 ∧
      (held.port 1).limit ≠ 0 ∧ (held.port 1).status = .active ∧ (held.port 1).limit ≤ min ((held.port 1).tally + 1) 15 ∧
      ¬ (demo.port 1).limit ≤ min ((demo.port 1).tally + 1) 15 := by decide +kernel

/-! Witnesses of the invariants: one state with a fill and a write at memory, and a placement waiting. -/

/-- One LIVE segment; RP0 has a cursor BOUND on it with a fill in flight under tag 0, a cursor waiting for placement,
and a write ISSUED under tag 1. -/
def small : State :=
  { State.reset with
    dt := (Vector.replicate 128 Descriptor.reset).set 0 { liveSeg with bindCount := 1 }
    cursors := ⟨(Vector.replicate 4 (Vector.replicate 8 Cursor.closed)).set 0
      (((Vector.replicate 8 Cursor.closed).set 0 (at0 .bound 0)).set 1 { at0 (.binding none) 0 with generation := 0 })⟩
    mapQueues := (Vector.replicate 4 []).set 0 [1]
    buffers := Grid.set (Grid.fill .empty) ⟨0, 0⟩ (.filling 0x1000 16 false .inFlight)
    slots := Grid.set (Grid.fill .empty) ⟨0, 0⟩ (.working .b8)
    postQueue := [⟨0, 0, 0x1010, .b4, [0, 0, 0, 0], 0, 16, .issued 1⟩]
    tags := ((Vector.replicate 8 .free).set 0 (.busy (.fill ⟨0, 0⟩) 16 (.running 65536))).set 1
      (.busy .write 4 (.running 65536))
    pending := [.drop 0] }

theorem small_steps : ∃ t, step small = .next t := ⟨_, rfl⟩

theorem witness_ResetPortClearsThePort_mapQueues : small.requestReady 0 = true ∧ small.MapQueuesExact := by
  unfold State.MapQueuesExact; decide +kernel

theorem witness_StepKeepsAuthorityAndBounds :
    small.SomeTable ∧ small.NoticesBounded ∧ small.StacksBounded ∧ small.TalliesBounded ∧ small.WaitingOwed ∧
      (after (.drop 0) owing).WaitingOwed := by
  refine ⟨⟨0, by decide +kernel⟩, ?_, ?_, ?_, ?_, ?_⟩
  · unfold State.NoticesBounded; decide +kernel
  · unfold State.StacksBounded; decide +kernel
  · unfold State.TalliesBounded; decide +kernel
  · unfold State.WaitingOwed; decide +kernel
  · unfold State.WaitingOwed; decide +kernel
theorem witness_StepKeepsMapQueuesExact : small.SegmentsNamed ∧ small.MapQueuesExact := by
  refine ⟨?_, ?_⟩
  · rintro ⟨p, c⟩
    revert p c
    decide +kernel
  · unfold State.MapQueuesExact; decide +kernel
theorem witness_StepKeepsTheReadPathCurrent :
    small.FillListExact ∧ small.SlotsOnBound ∧ small.SlotsMatchBuffers ∧ small.BuffersCurrent := by
  refine ⟨⟨by decide +kernel, ?_⟩, ?_, ?_, ?_⟩
  · rintro ⟨p, c⟩
    revert p c
    decide +kernel
  · rintro ⟨p, c⟩
    revert p c
    decide +kernel
  · rintro ⟨p, c⟩
    have key : ∀ p c, small.slot ⟨p, c⟩ = .empty ∧ small.buffer ⟨p, c⟩ = .empty ∨
        small.slot ⟨p, c⟩ = .working .b8 ∧ small.buffer ⟨p, c⟩ = .filling 0x1000 16 false .inFlight := by decide +kernel
    rcases key p c with ⟨h, h'⟩ | ⟨h, h'⟩ <;> rw [h, h'] <;> trivial
  · rintro ⟨p, c⟩ b n h e he
    have key : ∀ p c, (small.buffer ⟨p, c⟩).freshBlock = none ∨
        (small.buffer ⟨p, c⟩).freshBlock = some (0x1000, 16) := by decide +kernel
    have all : ∀ e ∈ small.postQueue, e.overlaps 0x1000 16 = false := by decide +kernel
    rcases key p c with h' | h' <;> rw [h'] at h
    · cases h
    · cases h
      exact all e he
theorem witness_StepKeepsThePostQueueOrdered : small.QueueOrdered ∧ small.IssuedDisjoint :=
  ⟨⟨by decide +kernel, List.pairwise_singleton _ _⟩, List.pairwise_singleton _ _⟩
theorem small_tags (t : TagNo) :
    t = 0 ∧ small.tag t = .busy (.fill ⟨0, 0⟩) 16 (.running 65536) ∨
      t = 1 ∧ small.tag t = .busy .write 4 (.running 65536) ∨ small.tag t = .free := by
  revert t; decide +kernel
theorem witness_StepKeepsTagsPaired : small.TagsPaired ∧ small.StoppedInProgress := by
  refine ⟨⟨?_, ?_, ?_, ?_, ?_, List.pairwise_singleton _ _⟩, ?_, ?_⟩
  · intro t id n r h
    rcases small_tags t with ⟨_, g⟩ | ⟨_, g⟩ | g <;> rw [g] at h <;> cases h
    decide +kernel
  · intro t n r h
    rcases small_tags t with ⟨_, g⟩ | ⟨e, g⟩ | g <;> rw [g] at h <;> cases h
    exact ⟨_, List.mem_singleton.2 rfl, by rw [e]⟩
  · rintro ⟨p, c⟩ h
    have key : ∀ p c, (small.buffer ⟨p, c⟩).isInFlight = true → p = 0 ∧ c = 0 := by decide +kernel
    obtain ⟨e, e'⟩ := key p c h
    subst e e'
    exact ⟨0, 16, .running 65536, by decide +kernel⟩
  · intro e he t h
    rw [List.mem_singleton.1 he] at h
    cases h
    exact ⟨4, .running 65536, by decide +kernel⟩
  · intro t u id n m r q h g
    rcases small_tags t with ⟨e, f⟩ | ⟨_, f⟩ | f <;> rw [f] at h <;> cases h
    rcases small_tags u with ⟨e', f'⟩ | ⟨_, f'⟩ | f' <;> rw [f'] at g <;> cases g
    rw [e, e']
  · intro t o n h
    rcases small_tags t with ⟨_, g⟩ | ⟨_, g⟩ | g <;> rw [g] at h <;> cases h
  · intro t e d h
    exact absurd (show small.respChannel = .idle from rfl) (by rw [h]; simp)
theorem small_desc (S : Seg) :
    S = 0 ∧ small.desc S = { liveSeg with bindCount := 1 } ∨ small.desc S = Descriptor.reset := by
  revert S; decide +kernel
theorem witness_StepKeepsTheTableConsistent : small.TableConsistent := by
  refine ⟨?_, fun S => ?_, fun S => ?_, ?_, ?_⟩
  · unfold State.BindCountsExact; decide +kernel
  · rcases small_desc S with ⟨_, h⟩ | h <;> rw [h]
    · rfl
    · exact ⟨rfl, rfl⟩
  · rcases small_desc S with ⟨_, h⟩ | h <;> rw [h]
    · show validateRecord 0x1000 256 16 = none
      decide
    · exact ⟨rfl, rfl, rfl, rfl, rfl, rfl⟩
  · rintro ⟨p, c⟩
    have key : ∀ p c, small.cursor ⟨p, c⟩ = at0 .bound 0 ∨ (small.cursor ⟨p, c⟩).state = .binding none ∨
        (small.cursor ⟨p, c⟩).state = .closed := by decide +kernel
    unfold State.CursorPlaced
    rcases key p c with h | h | h <;> rw [h]
    · refine ⟨0, rfl, ⟨by decide +kernel, by decide +kernel⟩, by decide +kernel, by decide +kernel⟩
    · trivial
    · trivial
  · intro p x hx
    have key : ∀ p, small.stack p = [] := by decide +kernel
    rw [key p] at hx
    cases hx

end Sys2Proof.Tests
end

section
/-! ## What COMMIT and RETIRE answer

One equation for each branch of the two bodies, and for each shared operation the parts of the state it changes. -/

namespace Sys2Proof.Machine

/-! ### COMMIT: what its body answers -/

section
variable {p : Port} {S : Seg} {s : State}

theorem commitBody_nothingStaged (hg : (s.port p).staging = Staging.empty) :
    commitBody p S s = (s, .refused .nothingStaged) := by
  simp [commitBody, hg]

theorem commitBody_retiring (hg : (s.port p).staging ≠ Staging.empty) (hs : (s.desc S).state = .retiring) :
    commitBody p S s = (s, .refused .segmentRetiring) := by
  simp [commitBody, hg, hs]

theorem commitBody_unstaged (hg : (s.port p).staging ≠ Staging.empty) (hs : (s.desc S).state = .free) {f : DescField}
    (hi : installRecord (s.port p).staging (s.desc S) = .error f) :
    commitBody p S s = (s, .refused (.badDescriptor f)) := by
  simp [commitBody, hg, hs, hi]

theorem commitBody_installInvalid (hg : (s.port p).staging ≠ Staging.empty) (hs : (s.desc S).state = .free)
    {r : Descriptor} (hi : installRecord (s.port p).staging (s.desc S) = .ok r) {f : DescField}
    (hv : validateRecord r.base r.length r.depth = some f) :
    commitBody p S s = (s, .refused (.badDescriptor f)) := by
  simp [commitBody, hg, hs, hi, hv]

theorem commitBody_install (hg : (s.port p).staging ≠ Staging.empty) (hs : (s.desc S).state = .free)
    {r : Descriptor} (hi : installRecord (s.port p).staging (s.desc S) = .ok r)
    (hv : validateRecord r.base r.length r.depth = none) : commitBody p S s = commitDone p S r s := by
  simp [commitBody, hg, hs, hi, hv]

theorem commitBody_replaceInvalid (hg : (s.port p).staging ≠ Staging.empty) (hs : (s.desc S).state = .live)
    {r : Descriptor} (hr : replacementRecord (s.port p).staging (s.desc S) = r) {f : DescField}
    (hv : validateRecord r.base r.length r.depth = some f) :
    commitBody p S s = (s, .refused (.badDescriptor f)) := by
  simp [commitBody, hg, hs, hr, hv]

theorem commitBody_replace (hg : (s.port p).staging ≠ Staging.empty) (hs : (s.desc S).state = .live)
    {r : Descriptor} (hr : replacementRecord (s.port p).staging (s.desc S) = r)
    (hv : validateRecord r.base r.length r.depth = none) :
    commitBody p S s = ((commitDone p S r s).1.broadcastReplace S, (commitDone p S r s).2) := by
  simp [commitBody, hg, hs, hr, hv]

end

/-- The record an install writes: the staged values, absent or zero for what is not staged (R16). -/
theorem installRecord_staged {g : Staging} {d : Descriptor} {b n : Word} {r : Vector Rights 4} (hb : g.base = some b)
    (hn : g.length = some n) (hr : g.rights = some r) :
    installRecord g d = .ok
      { d with
        state := .live, generation := d.generation + 1, base := b, length := n.toNat, rights := r,
        link := g.link.getD none, depth := g.depth.getD 0, keep := g.keep.getD false } := by
  simp [installRecord, hb, hn, hr]

/-- The record a COMMIT writes and the staging record it empties (R16, R17). -/
theorem State.onlyChanges_commitDone (s : State) (p : Port) (S : Seg) (d : Descriptor) :
    s.OnlyChanges (commitDone p S d s).1 [.dt, .ports] := by
  intro q hq
  cases q <;> simp_all [State.agree, commitDone]

/-- What the replacement broadcast reaches (R18, R19). -/
theorem State.onlyChanges_broadcastReplace (s : State) (S : Seg) :
    s.OnlyChanges (s.broadcastReplace S) [.cursors, .mapQueues, .ctxStacks, .slots, .buffers, .fillList] := by
  intro q hq
  cases q <;> simp_all [State.agree]

@[simp] theorem State.port_emptyStaging (s : State) (p q : Port) :
    (s.emptyStaging p).port q = if q = p then { s.port p with staging := Staging.empty } else s.port q := by
  simp [State.emptyStaging]

/-! ### RETIRE: what its body answers (the table of R20) -/

section
variable {p : Port} {S : Seg} {s : State}

theorem retireBody_free (forced : Bool) (hs : (s.desc S).state = .free) :
    retireBody p forced S s = (s, .refused .notLive) := by
  simp [retireBody, hs]

theorem retireBody_unheld (forced : Bool) (hs : (s.desc S).state = .live) (h0 : (s.desc S).bindCount = 0) :
    retireBody p forced S s =
      (s.setDesc S (s.desc S).freed, retireDone .retireComplete ((s.desc S).generation + 1)) := by
  simp [retireBody, hs, h0, Descriptor.freed]

theorem retireBody_graceful (hs : (s.desc S).state = .live) (h0 : (s.desc S).bindCount ≠ 0) :
    retireBody p false S s =
      (s.setDesc S { s.desc S with state := .retiring, retiringPort := some p },
        retireDone .retirePending (s.desc S).generation) := by
  simp [retireBody, hs, h0]

theorem retireBody_again (hs : (s.desc S).state = .retiring) :
    retireBody p false S s = (s, .refused .segmentRetiring) := by
  simp [retireBody, hs]

theorem retireBody_forced
    (hs : (s.desc S).state = .retiring ∨ (s.desc S).state = .live ∧ (s.desc S).bindCount ≠ 0) :
    retireBody p true S s = (s.forceRetire S, retireDone .retireComplete ((s.desc S).generation + 1)) := by
  rcases hs with hs | ⟨hs, h0⟩
  · simp [retireBody, hs, Descriptor.freed]
  · simp [retireBody, hs, h0, Descriptor.freed]

end

/-! ### The forced retirement: the parts it changes -/

theorem State.onlyChanges_setDesc (s : State) (S : Seg) (d : Descriptor) : s.OnlyChanges (s.setDesc S d) [.dt] := by
  intro q hq
  cases q <;> simp_all [State.agree]

/-- The REVOKED notices change the notice queues and nothing else. -/
theorem State.onlyChanges_notifyAllRevoked (s before : State) (S : Seg) :
    s.OnlyChanges (s.notifyAllRevoked before S) [.notices] := by
  intro q hq
  cases q <;> simp_all [State.agree, State.notifyAllRevoked, allPorts]

section
variable (s before : State) (S : Seg)

@[simp] theorem State.desc_notifyAllRevoked (T : Seg) : (s.notifyAllRevoked before S).desc T = s.desc T := by
  rw [State.desc, show _ = _ from s.onlyChanges_notifyAllRevoked before S .dt (by decide)]; rfl

@[simp] theorem State.cursor_notifyAllRevoked (id : CursorId) :
    (s.notifyAllRevoked before S).cursor id = s.cursor id := by
  rw [State.cursor, show _ = _ from s.onlyChanges_notifyAllRevoked before S .cursors (by decide)]; rfl

@[simp] theorem State.stack_notifyAllRevoked (q : Port) : (s.notifyAllRevoked before S).stack q = s.stack q := by
  rw [State.stack, show _ = _ from s.onlyChanges_notifyAllRevoked before S .ctxStacks (by decide)]; rfl

@[simp] theorem State.mapQueue_notifyAllRevoked (q : Port) :
    (s.notifyAllRevoked before S).mapQueue q = s.mapQueue q := by
  rw [State.mapQueue, show _ = _ from s.onlyChanges_notifyAllRevoked before S .mapQueues (by decide)]; rfl

@[simp] theorem State.slot_notifyAllRevoked (id : CursorId) : (s.notifyAllRevoked before S).slot id = s.slot id := by
  rw [State.slot, show _ = _ from s.onlyChanges_notifyAllRevoked before S .slots (by decide)]; rfl

@[simp] theorem State.buffer_notifyAllRevoked (id : CursorId) :
    (s.notifyAllRevoked before S).buffer id = s.buffer id := by
  rw [State.buffer, show _ = _ from s.onlyChanges_notifyAllRevoked before S .buffers (by decide)]; rfl

@[simp] theorem State.notifyAllRevoked_fillList : (s.notifyAllRevoked before S).fillList = s.fillList :=
  s.onlyChanges_notifyAllRevoked before S .fillList (by decide)

end

theorem State.onlyChanges_broadcastRevoke (s : State) (S : Seg) :
    s.OnlyChanges (s.broadcastRevoke S) [.cursors, .mapQueues, .ctxStacks, .slots, .buffers, .fillList] := by
  intro q hq
  cases q <;> simp_all [State.agree]

theorem State.onlyChanges_notifyForced (s : State) (S : Seg) (d : Descriptor) :
    s.OnlyChanges (s.notifyForced S d) [.notices] := by
  intro q hq
  cases q <;> simp_all [State.agree]

theorem State.onlyChanges_forceRetire (s : State) (S : Seg) :
    s.OnlyChanges (s.forceRetire S)
      [.dt, .cursors, .mapQueues, .ctxStacks, .slots, .buffers, .fillList, .notices] :=
  ((((s.onlyChanges_broadcastRevoke S).trans (State.onlyChanges_notifyAllRevoked _ s S)).trans
    (State.onlyChanges_notifyForced _ S _)).trans (State.onlyChanges_setDesc _ S _)).mono (by decide)

end Sys2Proof.Machine
end

section
/-! ## The account of bindings in the middle of an event

An event takes its parts one after the other, and between them a binding may be counted on its descriptor while no
record holds it (a POP has released its cursor's old binding and not yet restored the context's). State.Accounted is
the invariant of the table with a list of such loose bindings; each shared operation moves bindings into the list or
out of it, and a whole event begins and ends with none. -/

namespace Sys2Proof.Machine

/-! ### The bindings of a record -/

/-- The bindings a cursor record holds: one on its segment, or none (R34). -/
def Cursor.bindings (c : Cursor) : List Seg := if c.state.holdsBinding then c.segment.toList else []

/-- The bindings a context holds: one on its segment, or none (R80). -/
def Context.bindings (x : Context) : List Seg := if x.mark.holdsBinding then [x.segment] else []

theorem Cursor.bindings_of_free {c : Cursor} (h : c.state.holdsBinding = false) : c.bindings = [] := by
  simp [Cursor.bindings, h]

theorem Cursor.bindings_of_holds {c : Cursor} {S : Seg} (h : c.state.holdsBinding = true) (hs : c.segment = some S) :
    c.bindings = [S] := by
  simp [Cursor.bindings, h, hs]

@[simp] theorem Cursor.bindings_closed : Cursor.closed.bindings = [] := rfl

theorem Cursor.count_bindings (c : Cursor) (S : Seg) : c.bindings.count S = if c.holds S then 1 else 0 := by
  unfold Cursor.bindings Cursor.holds
  cases c.state.holdsBinding <;> cases c.segment <;> simp [List.count_singleton]

theorem Context.count_bindings (x : Context) (S : Seg) : x.bindings.count S = if x.holds S then 1 else 0 := by
  unfold Context.bindings Context.holds
  cases x.mark.holdsBinding <;> simp [List.count_singleton]

theorem Cursor.mem_bindings (c : Cursor) (S : Seg) : S ∈ c.bindings ↔ c.holds S = true := by
  rw [← List.count_pos_iff, Cursor.count_bindings]
  split <;> simp_all

/-- The descriptors after the release of what a cursor holds. -/
@[simp] theorem State.desc_releaseOf (s : State) (c : Cursor) (T : Seg) :
    (s.releaseOf c).desc T = if T ∈ c.bindings then (s.desc T).released else s.desc T := by
  unfold State.releaseOf Cursor.bindings
  cases c.state.holdsBinding <;> cases c.segment <;> simp
  split <;> simp_all

/-- The descriptors after a context is let go. -/
@[simp] theorem State.desc_letGo (s : State) (x : Context) (T : Seg) :
    (s.letGo x).desc T = if T ∈ x.bindings then (s.desc T).released else s.desc T := by
  unfold State.letGo Context.bindings
  cases x.mark <;> simp [Mark.holdsBinding]
  all_goals split <;> simp_all

/-- The bindings held by a stack of contexts, counted on one segment. -/
theorem count_flatMap_bindings (st : List Context) (S : Seg) :
    (st.flatMap Context.bindings).count S = st.countP (fun x => x.holds S) := by
  induction st with
  | nil => rfl
  | cons x rest ih => simp [List.count_append, ih, Context.count_bindings, List.countP_cons, Nat.add_comm]

/-! ### Counting holders -/

theorem mem_allIds (id : CursorId) : id ∈ allIds := by
  obtain ⟨p, c⟩ := id
  revert p c
  decide

theorem allIds_nodup : allIds.Nodup := by decide

theorem mem_allPorts (p : Port) : p ∈ allPorts := by revert p; decide

theorem allPorts_nodup : allPorts.Nodup := by decide

/-- A count over a list changes with the one element at which two predicates differ. -/
theorem countP_change {α : Type} [DecidableEq α] {l : List α} (hl : l.Nodup) {a : α} (ha : a ∈ l)
    {f g : α → Bool} (h : ∀ x, x ≠ a → f x = g x) :
    l.countP f + (if g a then 1 else 0) = l.countP g + (if f a then 1 else 0) := by
  have hp := List.perm_cons_erase ha
  have hrest : (l.erase a).countP f = (l.erase a).countP g :=
    List.countP_congr (fun x hx => by rw [h x ((hl.mem_erase_iff.1 hx).1)])
  rw [hp.countP_eq f, hp.countP_eq g, List.countP_cons, List.countP_cons, hrest]
  omega

/-- A sum over a list changes with the one element at which two functions differ. -/
theorem sum_map_change {α : Type} [DecidableEq α] {l : List α} (hl : l.Nodup) {a : α} (ha : a ∈ l)
    {f g : α → Nat} (h : ∀ x, x ≠ a → f x = g x) : (l.map f).sum + g a = (l.map g).sum + f a := by
  have hp := List.perm_cons_erase ha
  have hrest : (l.erase a).map f = (l.erase a).map g :=
    List.map_congr_left (fun x hx => h x ((hl.mem_erase_iff.1 hx).1))
  rw [(hp.map f).sum_eq, (hp.map g).sum_eq, List.map_cons, List.map_cons, hrest, List.sum_cons, List.sum_cons]
  omega

/-- The holders of a segment are counted from the cursors and the stacks alone. -/
theorem State.holders_congr {s t : State} (hc : ∀ id, t.cursor id = s.cursor id) (hs : ∀ p, t.stack p = s.stack p)
    (S : Seg) : t.holders S = s.holders S := by
  simp only [State.holders, State.heldContexts, hc, hs]

theorem State.holders_setCursor (s : State) (id : CursorId) (c : Cursor) (S : Seg) :
    (s.setCursor id c).holders S + (s.cursor id).bindings.count S = s.holders S + c.bindings.count S := by
  have h := countP_change allIds_nodup (mem_allIds id) (f := fun x => ((s.setCursor id c).cursor x).holds S)
    (g := fun x => (s.cursor x).holds S) (fun x hx => by simp [hx])
  simp only [State.cursor_setCursor, if_true] at h
  simp only [State.holders, State.heldContexts, Cursor.count_bindings, State.stack_setCursor, State.cursor_setCursor]
  omega

theorem State.holders_setStack (s : State) (p : Port) (st : List Context) (S : Seg) :
    (s.setStack p st).holders S + ((s.stack p).flatMap Context.bindings).count S =
      s.holders S + (st.flatMap Context.bindings).count S := by
  have h := sum_map_change allPorts_nodup (mem_allPorts p) (f := fun q => (s.setStack p st).heldContexts q S)
    (g := fun q => s.heldContexts q S) (fun q hq => by simp [State.heldContexts, hq])
  simp only [State.heldContexts, State.stack_setStack, if_true] at h
  simp only [State.holders, State.heldContexts, count_flatMap_bindings, State.cursor_setStack, State.stack_setStack]
  omega

/-- A segment without holders has no cursor that holds it. -/
theorem State.not_holds_of_holders_eq_zero {s : State} {S : Seg} (h : s.holders S = 0) (id : CursorId) :
    (s.cursor id).holds S = false := by
  have h0 : allIds.countP (fun id => (s.cursor id).holds S) = 0 := by unfold State.holders at h; omega
  simpa using List.countP_eq_zero.1 h0 id (mem_allIds id)

/-- A segment without holders has no context that holds it. -/
theorem State.not_context_holds_of_holders_eq_zero {s : State} {S : Seg} (h : s.holders S = 0) {p : Port}
    {x : Context} (hx : x ∈ s.stack p) : x.holds S = false := by
  have h0 : (allPorts.map (fun p => s.heldContexts p S)).sum = 0 := by unfold State.holders at h; omega
  have hp : s.heldContexts p S = 0 := List.sum_eq_zero_iff.1 h0 _ (List.mem_map.2 ⟨p, mem_allPorts p, rfl⟩)
  simpa using List.countP_eq_zero.1 hp x hx

/-! ### Records placed in the table -/

/-- A cursor record that matches the table, as R35 says for BOUND and EXHAUSTED cursors. -/
structure Cursor.PlacedIn (c : Cursor) (s : State) : Prop where
  bound : c.state = .bound → ∃ S, c.segment = some S ∧ (s.desc S).Matches c.generation ∧
    0 ≤ c.offset.toInt ∧ c.offset.toInt < (s.desc S).length
  exhausted : ∀ side, c.state = .exhausted side → ∃ S, c.segment = some S ∧ (s.desc S).Matches c.generation

theorem State.cursorPlaced_iff (s : State) (id : CursorId) : s.CursorPlaced id ↔ (s.cursor id).PlacedIn s := by
  unfold State.CursorPlaced
  constructor
  · intro h
    constructor
    · intro e; rw [e] at h; exact h
    · intro side e; rw [e] at h; exact h
  · intro h
    split
    · exact h.bound ‹_›
    · exact h.exhausted _ ‹_›
    · trivial

/-- A record in a state that names no place in the table is placed in every table. -/
theorem Cursor.PlacedIn.of_state {c : Cursor} (s : State) (hb : c.state ≠ .bound)
    (he : ∀ e, c.state ≠ .exhausted e) :
    c.PlacedIn s :=
  ⟨fun h => absurd h hb, fun e h => absurd h (he e)⟩

/-- Descriptor e keeps the place of d for the records on it: unless d is FREE, e is not, and has d's generation and
length. -/
def Descriptor.SamePlace (d e : Descriptor) : Prop :=
  d.state ≠ .free → e.state ≠ .free ∧ e.generation = d.generation ∧ e.length = d.length

theorem Descriptor.SamePlace.refl (d : Descriptor) : d.SamePlace d := fun hs => ⟨hs, rfl, rfl⟩

/-- The bind count is no part of a descriptor's place. -/
theorem Descriptor.SamePlace.bindCount (d : Descriptor) (n : Nat) : d.SamePlace { d with bindCount := n } :=
  fun hs => ⟨hs, rfl, rfl⟩

/-- A claim leaves every descriptor in its place. -/
theorem State.samePlace_claim (s : State) (S T : Seg) : (s.desc T).SamePlace ((s.claim S).desc T) := by
  rw [State.desc_claim]
  split
  · next e => rw [e]; exact .bindCount _ _
  · exact .refl _

theorem Descriptor.Matches.mono {d e : Descriptor} {g : BitVec 8} (h : d.Matches g) (hp : d.SamePlace e) :
    e.Matches g := by
  obtain ⟨hs, hg⟩ := h
  obtain ⟨hs', hg', -⟩ := hp hs
  exact ⟨hs', by rw [hg, hg']⟩

/-- No cursor is BOUND or EXHAUSTED on S, and no context on S is VALID. -/
structure State.NonePlaced (s : State) (S : Seg) : Prop where
  cursors : ∀ id, (s.cursor id).replacedBy S = false
  contexts : ∀ p, ∀ x ∈ s.stack p, x.mark = .valid → x.segment ≠ S

theorem Cursor.replacedBy_eq_false {c : Cursor} {S : Seg} (h : c.holds S = false) : c.replacedBy S = false := by
  rw [← Bool.not_eq_true] at h ⊢
  rw [Cursor.holds_iff] at h
  rw [Cursor.replacedBy_iff]
  tauto

theorem State.nonePlaced_of_holders {s : State} {S : Seg} (h : s.holders S = 0) : s.NonePlaced S where
  cursors id := Cursor.replacedBy_eq_false (State.not_holds_of_holders_eq_zero h id)
  contexts p x hx hm hs := by
    have hf := State.not_context_holds_of_holders_eq_zero h hx
    simp [Context.holds, hm, hs, Mark.holdsBinding] at hf

theorem Cursor.PlacedIn.mono {c : Cursor} {s t : State} (h : c.PlacedIn s)
    (hd : ∀ S, c.replacedBy S = true → (s.desc S).SamePlace (t.desc S)) : c.PlacedIn t := by
  constructor
  · intro e
    obtain ⟨S, hs, hm, h0, hl⟩ := h.bound e
    have hp := hd S ((Cursor.replacedBy_iff c S).2 ⟨hs, .inl e⟩)
    obtain ⟨-, -, hlength⟩ := hp hm.1
    exact ⟨S, hs, hm.mono hp, h0, by rw [hlength]; exact hl⟩
  · intro side e
    obtain ⟨S, hs, hm⟩ := h.exhausted side e
    exact ⟨S, hs, hm.mono (hd S ((Cursor.replacedBy_iff c S).2 ⟨hs, .inr ⟨side, e⟩⟩))⟩

theorem State.ContextPlaced.mono {x : Context} {s t : State} (h : s.ContextPlaced x)
    (hd : x.mark = .valid → (s.desc x.segment).SamePlace (t.desc x.segment)) : t.ContextPlaced x := by
  intro hm
  obtain ⟨hmatch, hin⟩ := h hm
  obtain ⟨-, -, hlength⟩ := hd hm hmatch.1
  refine ⟨hmatch.mono (hd hm), fun hs => ?_⟩
  rw [hlength]
  exact hin hs

theorem State.ContextPlaced.congr {x : Context} {s t : State} (h : s.ContextPlaced x)
    (hd : ∀ S, t.desc S = s.desc S) : t.ContextPlaced x :=
  h.mono (fun _ => by rw [hd]; exact .refl _)

theorem Cursor.PlacedIn.congr {c : Cursor} {s t : State} (h : c.PlacedIn s) (hd : ∀ S, t.desc S = s.desc S) :
    c.PlacedIn t :=
  h.mono (fun S _ => by rw [hd]; exact .refl _)

/-! ### The account -/

/-- The table, the cursors and the contexts agree, but for the bindings in loose, which are counted on the table and
held by no record. -/
structure State.Accounted (s : State) (loose : List Seg) : Prop where
  counts : ∀ S, (s.desc S).bindCount = s.holders S + loose.count S
  lives : s.LivesOk
  valid : s.DescriptorsValid
  cursors : ∀ id, (s.cursor id).PlacedIn s
  contexts : ∀ p, ∀ x ∈ s.stack p, s.ContextPlaced x

theorem State.tableConsistent_iff (s : State) : s.TableConsistent ↔ s.Accounted [] := by
  constructor
  · rintro ⟨h1, h2, h3, h4, h5⟩
    exact ⟨fun S => h1 S, h2, h3, fun id => (s.cursorPlaced_iff id).1 (h4 id), h5⟩
  · rintro ⟨h1, h2, h3, h4, h5⟩
    exact ⟨fun S => h1 S, h2, h3, fun id => (s.cursorPlaced_iff id).2 (h4 id), h5⟩

/-! ### Descriptors after a release -/

@[simp] theorem Descriptor.freed_bindCount (d : Descriptor) : d.freed.bindCount = 0 := rfl
theorem Descriptor.freed_lifeOk (d : Descriptor) : d.freed.LifeOk := ⟨rfl, rfl⟩
theorem Descriptor.freed_valuesOk (d : Descriptor) : d.freed.ValuesOk := ⟨rfl, rfl, rfl, rfl, rfl, rfl⟩

theorem Descriptor.released_of_last {d : Descriptor} (h : d.state = .retiring ∧ d.bindCount = 1) :
    d.released = d.freed := by
  simp [Descriptor.released, h.1, h.2]

theorem Descriptor.released_of_more {d : Descriptor} (hf : d.state ≠ .free)
    (h : ¬ (d.state = .retiring ∧ d.bindCount = 1)) : d.released = { d with bindCount := d.bindCount - 1 } := by
  unfold Descriptor.released
  cases hs : d.state <;> simp_all

/-- A release that does not complete a retirement leaves a RETIRING descriptor with holders (R6, R23). -/
theorem Descriptor.LifeOk.dropOne {d : Descriptor} (h : d.LifeOk) (hl : ¬ (d.state = .retiring ∧ d.bindCount = 1)) :
    Descriptor.LifeOk { d with bindCount := d.bindCount - 1 } := by
  unfold Descriptor.LifeOk at h ⊢
  dsimp only
  cases hs : d.state <;> rw [hs] at h
  · exact ⟨by rw [h.1], h.2⟩
  · exact h
  · have hne : d.bindCount ≠ 1 := fun e => hl ⟨hs, e⟩
    exact ⟨by have := h.1; omega, h.2⟩

/-- The bind count is not among the values that validation judges. -/
theorem Descriptor.ValuesOk.bindCount {d : Descriptor} (h : d.ValuesOk) (n : Nat) :
    Descriptor.ValuesOk { d with bindCount := n } := h

namespace State.Accounted

variable {s t : State} {l l' : List Seg}

/-- The account speaks of the descriptors, the cursors and the stacks alone. -/
theorem congr (h : s.Accounted l) (hd : ∀ S, t.desc S = s.desc S) (hc : ∀ id, t.cursor id = s.cursor id)
    (hs : ∀ p, t.stack p = s.stack p) : t.Accounted l where
  counts S := by rw [hd, State.holders_congr hc hs]; exact h.counts S
  lives S := by rw [hd]; exact h.lives S
  valid S := by rw [hd]; exact h.valid S
  cursors id := by
    rw [hc]; exact (h.cursors id).congr hd
  contexts p x hx := by
    rw [hs] at hx
    exact (h.contexts p x hx).congr hd

/-- A cursor record is written: its bindings leave the loose ones, those of the record before join them. -/
theorem setCursor (h : s.Accounted l) {id : CursorId} {c : Cursor} (hc : c.PlacedIn s)
    (hb : (c.bindings ++ l').Perm ((s.cursor id).bindings ++ l)) : (s.setCursor id c).Accounted l' where
  counts S := by
    have e := hb.count_eq S
    have e1 := s.holders_setCursor id c S
    have e2 := h.counts S
    rw [List.count_append, List.count_append] at e
    rw [State.desc_setCursor]
    omega
  lives := h.lives
  valid := h.valid
  cursors x := by
    rw [State.cursor_setCursor]
    split
    · exact hc.congr (fun _ => rfl)
    · exact (h.cursors x).congr (fun _ => rfl)
  contexts := h.contexts

/-- A stack is written: its bindings leave the loose ones, those of the stack before join them. -/
theorem setStack (h : s.Accounted l) {p : Port} {st : List Context} (hx : ∀ x ∈ st, s.ContextPlaced x)
    (hb : (st.flatMap Context.bindings ++ l').Perm ((s.stack p).flatMap Context.bindings ++ l)) :
    (s.setStack p st).Accounted l' where
  counts S := by
    have e := hb.count_eq S
    have e1 := s.holders_setStack p st S
    have e2 := h.counts S
    rw [List.count_append, List.count_append] at e
    rw [State.desc_setStack]
    omega
  lives := h.lives
  valid := h.valid
  cursors x := (h.cursors x).congr (fun _ => rfl)
  contexts q x hq := by
    rw [State.stack_setStack] at hq
    split at hq
    · exact hx x hq
    · exact h.contexts q x hq

/-- A descriptor is written: its count is exact with the bindings then loose, and it keeps its place unless no record
is placed on it. -/
theorem setDesc (h : s.Accounted l) {S : Seg} {d : Descriptor} (hcount : d.bindCount = s.holders S + l'.count S)
    (hrest : ∀ T, T ≠ S → l'.count T = l.count T) (hlife : d.LifeOk) (hvalues : d.ValuesOk)
    (hplace : s.NonePlaced S ∨ (s.desc S).SamePlace d) : (s.setDesc S d).Accounted l' where
  counts T := by
    have e : (s.setDesc S d).holders T = s.holders T := State.holders_congr (fun _ => rfl) (fun _ => rfl) T
    rw [State.desc_setDesc, e]
    split
    · next hT => rw [hT]; exact hcount
    · next hT => rw [hrest T hT]; exact h.counts T
  lives T := by
    rw [State.desc_setDesc]
    split
    · exact hlife
    · exact h.lives T
  valid T := by
    rw [State.desc_setDesc]
    split
    · exact hvalues
    · exact h.valid T
  cursors id := (h.cursors id).mono (fun T hT => by
    rw [State.desc_setDesc]
    split
    · next e =>
      subst e
      rcases hplace with hn | hp
      · rw [hn.cursors id] at hT; cases hT
      · exact hp
    · exact .refl _)
  contexts p x hx := (h.contexts p x hx).mono (fun hm => by
    rw [State.desc_setDesc]
    split
    · next e =>
      rcases hplace with hn | hp
      · exact absurd e (hn.contexts p x hx hm)
      · rw [e]; exact hp
    · exact .refl _)

/-- A segment with a holder or a loose binding is not FREE (R6). -/
theorem state_ne_free (h : s.Accounted l) {S : Seg} (hpos : 0 < s.holders S + l.count S) :
    (s.desc S).state ≠ .free := by
  intro e
  have h1 := h.lives S
  have h2 := h.counts S
  unfold Descriptor.LifeOk at h1
  rw [e] at h1
  have : (s.desc S).bindCount = 0 := h1.1
  omega

/-- A release takes one loose binding (R10, R23). -/
theorem release {S : Seg} (h : s.Accounted (S :: l)) : (s.release S).Accounted l := by
  have hcount := h.counts S
  have hfree : (s.desc S).state ≠ .free := h.state_ne_free (by simp)
  rw [List.count_cons_self] at hcount
  suffices (s.setDesc S (s.desc S).released).Accounted l from this.congr (by simp) (by simp) (by simp)
  have hrest : ∀ T, T ≠ S → l.count T = (S :: l).count T := fun T hT => by rw [List.count_cons_of_ne (Ne.symm hT)]
  by_cases hlast : (s.desc S).state = .retiring ∧ (s.desc S).bindCount = 1
  · rw [Descriptor.released_of_last hlast]
    exact h.setDesc (by rw [Descriptor.freed_bindCount]; omega) hrest (Descriptor.freed_lifeOk _)
      (Descriptor.freed_valuesOk _) (.inl (State.nonePlaced_of_holders (by omega)))
  · rw [Descriptor.released_of_more hfree hlast]
    exact h.setDesc (by dsimp only; omega) hrest ((h.lives S).dropOne hlast) ((h.valid S).bindCount _)
      (.inr (.bindCount _ _))

/-- A claim makes one loose binding, on a segment that is not FREE (R8, R9). -/
theorem claim {S : Seg} (h : s.Accounted l) (hs : (s.desc S).state ≠ .free) : (s.claim S).Accounted (S :: l) := by
  have hcount := h.counts S
  have hlife := h.lives S
  refine h.setDesc (by rw [List.count_cons_self]; dsimp only; omega)
    (fun T hT => by rw [List.count_cons_of_ne (Ne.symm hT)]) ?_ ((h.valid S).bindCount _) (.inr (.bindCount _ _))
  unfold Descriptor.LifeOk at hlife ⊢
  dsimp only
  rcases hst : (s.desc S).state with _ | _ | _ <;> rw [hst] at hlife
  · exact absurd hst hs
  · exact hlife
  · exact ⟨Nat.le_add_left 1 _, hlife.2⟩

/-- The release of what a cursor record held. -/
theorem releaseOf {c : Cursor} (h : s.Accounted (c.bindings ++ l)) : (s.releaseOf c).Accounted l := by
  unfold Cursor.bindings at h
  unfold State.releaseOf
  split
  · next hb =>
    rw [if_pos hb] at h
    cases hs : c.segment with
    | none => rw [hs] at h; exact h
    | some S => rw [hs] at h; exact h.release
  · next hb => rw [if_neg hb] at h; exact h

/-- The release of what a removed context held (R89). -/
theorem letGo {x : Context} (h : s.Accounted (x.bindings ++ l)) : (s.letGo x).Accounted l := by
  unfold Context.bindings at h
  unfold State.letGo
  cases hm : x.mark <;> rw [hm] at h
  · exact h.release
  · exact h.release
  · exact h

/-- A cursor's binding is released and its record cleared, as CLOSE, POP and a revalidation begin. -/
theorem clear (h : s.Accounted l) (id : CursorId) :
    ((s.releaseOf (s.cursor id)).setCursor id Cursor.closed).Accounted l := by
  have hc : (s.setCursor id Cursor.closed).Accounted ((s.cursor id).bindings ++ l) :=
    h.setCursor (.of_state s (by simp [Cursor.closed]) (by simp [Cursor.closed])) (by simp)
  exact hc.releaseOf.congr (by simp) (by simp) (by simp)


/-- Two writes of one cursor record are the later one. -/
theorem setCursor_setCursor {id : CursorId} {c c' : Cursor} (h : ((s.setCursor id c).setCursor id c').Accounted l) :
    (s.setCursor id c').Accounted l :=
  h.congr (by simp) (fun x => by simp only [State.cursor_setCursor]; split <;> rfl) (by simp)

/-- A cleared cursor takes a record whose binding is loose. -/
theorem fill {id : CursorId} {c : Cursor} (h : (s.setCursor id Cursor.closed).Accounted (c.bindings ++ l))
    (hc : c.PlacedIn s) : (s.setCursor id c).Accounted l :=
  setCursor_setCursor (h.setCursor (hc.congr (fun _ => rfl)) (by simp))

end State.Accounted

/-! ### Advance resolution (R45 to R47) -/

/-- The values of a descriptor keep its length within R1. -/
theorem Descriptor.ValuesOk.length_le {d : Descriptor} (h : d.ValuesOk) : d.length ≤ 16777216 := by
  unfold Descriptor.ValuesOk at h
  cases hs : d.state <;> rw [hs] at h <;> dsimp only at h
  · rw [h.2.1]; omega
  · exact ((validateRecord_eq_none _ _ _).1 h).2.2.1
  · exact ((validateRecord_eq_none _ _ _).1 h).2.2.1

/-- An offset inside a segment is held exactly (R32). -/
theorem toInt_ofInt_of_inside {x : Int} {n : Nat} (h0 : 0 ≤ x) (hx : x < n) (hn : n ≤ 16777216) :
    (BitVec.ofInt 32 x).toInt = x := by
  rw [BitVec.toInt_ofInt]
  exact Int.bmod_eq_of_le (by omega) (by omega)

theorem resolveAdvance_bound {n : Nat} {link : Option Seg} {stride x y : Int}
    (h : resolveAdvance n link stride x = .bound y) : y = x ∧ 0 ≤ x ∧ x < n := by
  unfold resolveAdvance at h
  split at h
  · cases h
  · split at h
    · cases h; exact ⟨rfl, by omega, by assumption⟩
    · split at h
      · cases h
      · split at h <;> cases h

/-- A cursor BOUND or EXHAUSTED on a segment of the table. -/
structure Cursor.Seated (c : Cursor) (s : State) (S : Seg) : Prop where
  segment : c.segment = some S
  holds : c.state.holdsBinding = true
  matched : (s.desc S).Matches c.generation

theorem Cursor.PlacedIn.seated_of_bound {c : Cursor} {s : State} {S : Seg} (h : c.PlacedIn s) (hb : c.state = .bound)
    (hs : c.segment = some S) : c.Seated s S := by
  obtain ⟨T, hT, hm, -⟩ := h.bound hb
  obtain rfl : T = S := by rw [hs] at hT; exact (Option.some.inj hT).symm
  exact ⟨hs, by rw [hb]; rfl, hm⟩

theorem Cursor.PlacedIn.seated_of_exhausted {c : Cursor} {s : State} {S : Seg} {side : Side} (h : c.PlacedIn s)
    (he : c.state = .exhausted side) (hs : c.segment = some S) : c.Seated s S := by
  obtain ⟨T, hT, hm⟩ := h.exhausted side he
  obtain rfl : T = S := by rw [hs] at hT; exact (Option.some.inj hT).symm
  exact ⟨hs, by rw [he]; rfl, hm⟩

namespace State.Accounted

variable {s t : State} {l l' : List Seg}

/-- A record that holds the binding of the one before takes its place. -/
theorem reseat {id : CursorId} {S : Seg} {c : Cursor} (h : s.Accounted l) (hseat : (s.cursor id).Seated s S)
    (hc : c.PlacedIn s) (hb : c.bindings = [S]) : (s.setCursor id c).Accounted l :=
  h.setCursor hc (by rw [hb, Cursor.bindings_of_holds hseat.holds hseat.segment])

/-- An advance keeps the account: the cursor stays on its segment, or crosses and releases it. -/
theorem advance {id : CursorId} {S : Seg} (h : s.Accounted l) (hseat : (s.cursor id).Seated s S) (m : Nat) :
    (s.advance id S m).Accounted l := by
  unfold State.advance
  dsimp only
  split
  · next x hr =>
    obtain ⟨rfl, h0, hx⟩ := resolveAdvance_bound hr
    have hoff := toInt_ofInt_of_inside h0 hx (h.valid S).length_le
    refine h.reseat hseat ⟨fun _ => ⟨S, hseat.segment, hseat.matched, ?_, ?_⟩, by simp⟩
      (Cursor.bindings_of_holds rfl hseat.segment)
    · rw [hoff]; exact h0
    · rw [hoff]; exact hx
  · next T x _ =>
    have hcross : (s.setCursor id { s.cursor id with
        state := .crossing, segment := some T, offset := s.heldOffset 0 2147483647 x }).Accounted (S :: l) :=
      h.setCursor (.of_state s (by simp) (by simp))
        (by rw [Cursor.bindings_of_free rfl, Cursor.bindings_of_holds hseat.holds hseat.segment]; exact .refl _)
    exact hcross.release.congr (by simp) (by simp) (by simp)
  · next side x _ =>
    have hend := h.reseat (c := { s.cursor id with
        state := .exhausted side
        offset :=
          s.heldOffset (exhaustedLimits (s.desc S).length side).1 (exhaustedLimits (s.desc S).length side).2 x })
      hseat ⟨by simp, fun _ _ => ⟨S, hseat.segment, hseat.matched⟩⟩ (Cursor.bindings_of_holds rfl hseat.segment)
    exact hend.congr (by simp) (by simp) (by simp)

end State.Accounted

/-! ### Placement (R67 to R72) -/

/-- A walk that ends on a segment ends on a LIVE one, and inside it when it ends BOUND (R70). -/
def Walk.Lands (s : State) : Walk → Prop
  | .bound S x => (s.desc S).state = .live ∧ 0 ≤ x ∧ x < (s.desc S).length
  | .exhausted S _ _ => (s.desc S).state = .live
  | .failed _ _ _ => True

theorem walk_lands (s : State) (p : Port) (n : Nat) (S : Seg) (x : Int) : (walk s p n S x).Lands s := by
  induction n generalizing S x with
  | zero =>
    unfold walk
    repeat' split
    all_goals simp_all [Walk.Lands]
  | succ n ih =>
    unfold walk
    repeat' split
    all_goals first | exact ih _ _ | simp_all [Walk.Lands]

theorem placementWalk_lands (s : State) (p : Port) (S : Seg) (x : Int) (e : Option (BitVec 8)) :
    (placementWalk s p S x e).Lands s := by
  unfold placementWalk
  repeat' split
  · exact walk_lands ..
  · exact walk_lands ..
  · trivial

namespace State.Accounted

variable {s t : State} {l l' : List Seg}

/-- A placed record takes the claim of its segment. -/
theorem claimFor {id : CursorId} {S : Seg} {c : Cursor} (h : (s.setCursor id Cursor.closed).Accounted l)
    (hl : (s.desc S).state = .live) (hc : c.PlacedIn s) (hb : c.bindings = [S]) :
    ((s.setCursor id c).claim S).Accounted l := by
  have hclaim : ((s.claim S).setCursor id Cursor.closed).Accounted (S :: l) :=
    (h.claim (S := S) (by rw [State.desc_setCursor, hl]; simp)).congr (by simp) (by simp) (by simp)
  have hplace : c.PlacedIn (s.claim S) := hc.mono (fun T _ => s.samePlace_claim S T)
  have hfill : ((s.claim S).setCursor id c).Accounted l := fill (by rw [hb]; exact hclaim) hplace
  exact hfill.congr (by simp) (by simp) (by simp)

/-- The end of a walk settles a cleared cursor. -/
theorem settle {id : CursorId} {o : Origin} {w : Walk} (h : (s.setCursor id Cursor.closed).Accounted l)
    (hw : w.Lands s) : (s.settle id o w).Accounted l := by
  cases w with
  | bound S x =>
    obtain ⟨hl, h0, hx⟩ := hw
    have hoff := toInt_ofInt_of_inside h0 hx (h.valid S).length_le
    refine h.claimFor hl ⟨fun _ => ⟨S, rfl, ⟨by rw [hl]; simp, rfl⟩, ?_, ?_⟩, by simp [placedCursor]⟩ rfl
    · exact hoff.symm ▸ h0
    · exact hoff.symm ▸ hx
  | exhausted S x side =>
    have hl : (s.desc S).state = .live := hw
    exact h.claimFor hl ⟨by simp [placedCursor], fun _ _ => ⟨S, rfl, by rw [hl]; simp, rfl⟩⟩ rfl
  | failed S x reason =>
    have hf : (s.setCursor id (failedCursor (s.cursor id) S x reason)).Accounted l :=
      fill (c := failedCursor (s.cursor id) S x reason) h
        (.of_state s (by simp [failedCursor]) (by simp [failedCursor]))
    exact hf.congr (by simp [State.settle]) (by simp [State.settle]) (by simp [State.settle])

/-- The placement of a cursor keeps the account (R63, R67, R11). -/
theorem place (h : s.Accounted l) (id : CursorId) : (s.place id).Accounted l := by
  have hclear := h.clear id
  unfold State.place
  dsimp only
  split
  · next S e hs hst =>
    rw [State.releaseOf_of_not_holds _ _ (by rw [hst]; rfl)] at hclear
    exact hclear.settle (placementWalk_lands ..)
  · next S hs hst =>
    rw [State.releaseOf_of_not_holds _ _ (by rw [hst]; rfl)] at hclear
    exact hclear.settle (placementWalk_lands ..)
  · next S hs hst =>
    rw [State.releaseOf_of_holds _ _ S (by rw [hst]; rfl) hs] at hclear
    exact hclear.settle (placementWalk_lands ..)
  · exact h

end State.Accounted
end Sys2Proof.Machine
end

section
/-! ## Every step keeps the table consistent (O59)

The requests of the cursors and the stacks, COMMIT and RETIRE with their broadcasts, the resets, and the events that
leave the table alone: each begins and ends with every binding on the account. -/

namespace Sys2Proof.Machine

/-! ### The broadcasts (R18, R19, R25) -/

/-- The replacement broadcast takes no binding from a cursor. -/
theorem Cursor.holds_of_replaced {c : Cursor} {S : Seg} (h : c.replacedBy S = true) (T : Seg) :
    Cursor.holds { c with state := .revalidating } T = c.holds T := by
  obtain ⟨-, hb | ⟨e, hb⟩⟩ := (Cursor.replacedBy_iff c S).1 h <;>
    simp [Cursor.holds, hb, CursorState.holdsBinding]

/-- The replacement broadcast takes no binding from a context. -/
theorem Context.holds_replaced (x : Context) (S T : Seg) : (x.replaced S).holds T = x.holds T := by
  unfold Context.replaced
  split
  · next h => simp [Context.holds, h.2, Mark.holdsBinding]
  · rfl

theorem State.holders_broadcastReplace (s : State) (S T : Seg) : (s.broadcastReplace S).holders T = s.holders T := by
  have hc : ∀ id, ((s.broadcastReplace S).cursor id).holds T = (s.cursor id).holds T := by
    intro id
    rw [State.cursor_broadcastReplace]
    split
    · next h => exact Cursor.holds_of_replaced h T
    · rfl
  have hx : ∀ p, (s.broadcastReplace S).heldContexts p T = s.heldContexts p T := by
    intro p
    simp only [State.heldContexts, State.stack_broadcastReplace, List.countP_map, Function.comp_def,
      Context.holds_replaced]
  simp only [State.holders, hc, hx]

/-- The revocation of S takes from a cursor its binding on S and no other. -/
theorem Cursor.holds_revoked (c : Cursor) (S T : Seg) : (c.revoked S).holds T = (c.holds T && decide (T ≠ S)) := by
  by_cases h : c.holds S = true
  · have hlost : (c.revoked S).holds T = false := by rw [Cursor.revoked, if_pos h]; rfl
    have hs := ((Cursor.holds_iff c S).1 h).1
    rw [hlost, Cursor.holds, hs]
    by_cases hT : T = S
    · simp [hT]
    · simp [Ne.symm hT]
  · rw [Cursor.revoked, if_neg h]
    by_cases hT : T = S <;> simp_all

/-- The revocation of S takes from a context its binding on S and no other. -/
theorem Context.holds_revoked (x : Context) (S T : Seg) : (x.revoked S).holds T = (x.holds T && decide (T ≠ S)) := by
  by_cases h : x.holds S = true
  · have hlost : (x.revoked S).holds T = false := by rw [Context.revoked, if_pos h]; rfl
    have hs : x.segment = S := by simp [Context.holds] at h; exact h.2
    rw [hlost, Context.holds, hs]
    by_cases hT : T = S
    · simp [hT]
    · simp [Ne.symm hT]
  · rw [Context.revoked, if_neg h]
    by_cases hT : T = S <;> simp_all

theorem State.holders_broadcastRevoke (s : State) (S T : Seg) :
    (s.broadcastRevoke S).holders T = if T = S then 0 else s.holders T := by
  unfold State.holders State.heldContexts
  simp only [State.cursor_broadcastRevoke, State.stack_broadcastRevoke, List.countP_map, Function.comp_def,
    Cursor.holds_revoked, Context.holds_revoked]
  split
  · next h => simp [h]
  · next h => simp [h]

namespace State.Accounted

variable {s t : State} {l l' : List Seg}

/-- The replacement broadcast keeps the account and leaves no record placed on the segment. -/
theorem broadcastReplace (h : s.Accounted l) (S : Seg) : (s.broadcastReplace S).Accounted l where
  counts T := by rw [State.holders_broadcastReplace]; exact h.counts T
  lives := h.lives
  valid := h.valid
  cursors id := by
    rw [State.cursor_broadcastReplace]
    split
    · exact .of_state _ (by simp) (by simp)
    · exact (h.cursors id).congr (fun _ => rfl)
  contexts p x hx := by
    rw [State.stack_broadcastReplace] at hx
    obtain ⟨y, hy, rfl⟩ := List.mem_map.1 hx
    unfold Context.replaced
    split
    · exact fun hm => by cases hm
    · exact (h.contexts p y hy).congr (fun _ => rfl)

/-- The revocation broadcast makes the bindings on the segment loose. -/
theorem broadcastRevoke (h : s.Accounted []) (S : Seg) :
    (s.broadcastRevoke S).Accounted (List.replicate (s.holders S) S) where
  counts T := by
    have e := h.counts T
    rw [List.count_nil] at e
    rw [State.holders_broadcastRevoke, State.desc_broadcastRevoke, e, List.count_replicate]
    by_cases hT : T = S
    · simp [hT]
    · simp [hT, Ne.symm hT]
  lives := h.lives
  valid := h.valid
  cursors id := by
    rw [State.cursor_broadcastRevoke]
    unfold Cursor.revoked
    split
    · exact .of_state _ (by simp) (by simp)
    · exact (h.cursors id).congr (fun _ => rfl)
  contexts p x hx := by
    rw [State.stack_broadcastRevoke] at hx
    obtain ⟨y, hy, rfl⟩ := List.mem_map.1 hx
    unfold Context.revoked
    split
    · exact fun hm => by cases hm
    · exact (h.contexts p y hy).congr (fun _ => rfl)

end State.Accounted

theorem State.nonePlaced_broadcastReplace (s : State) (S : Seg) : (s.broadcastReplace S).NonePlaced S where
  cursors id := by
    rw [State.cursor_broadcastReplace]
    split
    · rfl
    · next h => exact Bool.not_eq_true _ ▸ h
  contexts p x hx hm hs := by
    rw [State.stack_broadcastReplace] at hx
    obtain ⟨y, -, rfl⟩ := List.mem_map.1 hx
    unfold Context.replaced at hm hs
    split at hm
    · cases hm
    · next hn => rw [if_neg hn] at hs; exact hn ⟨hs, hm⟩

/-! ### COMMIT and RETIRE -/

/-- An install takes the segment's count, retiring port and next generation, and is LIVE (R16). -/
theorem installRecord_ok {g : Staging} {d r : Descriptor} (h : installRecord g d = .ok r) :
    r.state = .live ∧ r.bindCount = d.bindCount ∧ r.retiringPort = d.retiringPort := by
  unfold installRecord at h
  split at h
  · cases h
  · cases h
  · cases h
  · cases h; exact ⟨rfl, rfl, rfl⟩

namespace State.Accounted

variable {s t : State} {l l' : List Seg}

/-- A record without a holder is written over: installed, or freed. -/
theorem overwrite {S : Seg} {d : Descriptor} (h : s.Accounted []) (h0 : (s.desc S).bindCount = 0)
    (hd : d.bindCount = 0) (hlife : d.LifeOk) (hvalues : d.ValuesOk) : (s.setDesc S d).Accounted [] := by
  have hcount := h.counts S
  rw [List.count_nil] at hcount
  exact h.setDesc (by rw [List.count_nil]; omega) (fun _ _ => rfl) hlife hvalues
    (.inl (State.nonePlaced_of_holders (by omega)))

/-- An install writes a valid LIVE record over a FREE one (R16). -/
theorem install (h : s.Accounted []) {S : Seg} {r : Descriptor} (p : Port) (hs : (s.desc S).state = .free)
    (hlive : r.state = .live) (hbind : r.bindCount = (s.desc S).bindCount)
    (hport : r.retiringPort = (s.desc S).retiringPort) (hv : validateRecord r.base r.length r.depth = none) :
    (commitDone p S r s).1.Accounted [] := by
  have hlife := h.lives S
  unfold Descriptor.LifeOk at hlife
  rw [hs] at hlife
  obtain ⟨h0, hnone⟩ := hlife
  have hset : (s.setDesc S r).Accounted [] :=
    h.overwrite h0 (hbind.trans h0) (by unfold Descriptor.LifeOk; rw [hlive]; exact hport.trans hnone)
      (by unfold Descriptor.ValuesOk; rw [hlive]; exact hv)
  exact hset.congr (by simp [commitDone]) (by simp [commitDone]) (by simp [commitDone])

/-- A replacement writes a valid record over a LIVE one, on which its broadcast leaves no record placed (R17 to
R19). -/
theorem replace (h : s.Accounted []) {S : Seg} {r : Descriptor} (p : Port) (hs : (s.desc S).state = .live)
    (hr : replacementRecord (s.port p).staging (s.desc S) = r)
    (hv : validateRecord r.base r.length r.depth = none) :
    ((commitDone p S r s).1.broadcastReplace S).Accounted [] := by
  subst hr
  have hlife := h.lives S
  unfold Descriptor.LifeOk at hlife
  rw [hs] at hlife
  have hset := (h.broadcastReplace S).setDesc (S := S) (l' := [])
    (d := replacementRecord (s.port p).staging (s.desc S))
    (by rw [State.holders_broadcastReplace]; exact h.counts S) (fun _ _ => rfl)
    (by unfold Descriptor.LifeOk replacementRecord; dsimp only; rw [hs]; exact hlife)
    (by unfold Descriptor.ValuesOk; rw [show (replacementRecord _ _).state = _ from hs]; exact hv)
    (.inl (s.nonePlaced_broadcastReplace S))
  exact hset.congr (by simp [commitDone]) (by simp [commitDone]) (by simp [commitDone])

theorem commitBody (h : s.Accounted []) (p : Port) (S : Seg) : (commitBody p S s).1.Accounted [] := by
  by_cases hg : (s.port p).staging = Staging.empty
  · rw [commitBody_nothingStaged hg]; exact h
  · cases hs : (s.desc S).state with
    | retiring => rw [commitBody_retiring hg hs]; exact h
    | free =>
      cases hi : installRecord (s.port p).staging (s.desc S) with
      | error f => rw [commitBody_unstaged hg hs hi]; exact h
      | ok r =>
        cases hv : validateRecord r.base r.length r.depth with
        | some f => rw [commitBody_installInvalid hg hs hi hv]; exact h
        | none =>
          obtain ⟨hlive, hbind, hport⟩ := installRecord_ok hi
          rw [commitBody_install hg hs hi hv]
          exact h.install p hs hlive hbind hport hv
    | live =>
      obtain ⟨r, hr⟩ : ∃ r, replacementRecord (s.port p).staging (s.desc S) = r := ⟨_, rfl⟩
      cases hv : validateRecord r.base r.length r.depth with
      | some f => rw [commitBody_replaceInvalid hg hs hr hv]; exact h
      | none => rw [commitBody_replace hg hs hr hv]; exact h.replace p hs hr hv

/-- A forced retirement makes the bindings on the segment loose and frees it with all of them (R24, R25). -/
theorem forceRetire (h : s.Accounted []) (S : Seg) : (s.forceRetire S).Accounted [] := by
  have hnone : (s.broadcastRevoke S).holders S = 0 := by rw [State.holders_broadcastRevoke, if_pos rfl]
  have hfreed : ((s.broadcastRevoke S).setDesc S (s.desc S).freed).Accounted [] :=
    (h.broadcastRevoke S).setDesc (by rw [hnone]; rfl)
      (fun T hT => by rw [List.count_replicate, List.count_nil]; simp [Ne.symm hT])
      (Descriptor.freed_lifeOk _) (Descriptor.freed_valuesOk _) (.inl (State.nonePlaced_of_holders hnone))
  exact hfreed.congr (by simp [State.forceRetire]) (by simp [State.forceRetire]) (by simp [State.forceRetire])

/-- A graceful retirement of a held segment keeps its count and its place (R22). -/
theorem retireGracefully (h : s.Accounted []) {S : Seg} (p : Port) (hs : (s.desc S).state = .live)
    (h0 : (s.desc S).bindCount ≠ 0) :
    (s.setDesc S { s.desc S with state := .retiring, retiringPort := some p }).Accounted [] := by
  have hvalues := h.valid S
  unfold Descriptor.ValuesOk at hvalues
  rw [hs] at hvalues
  exact h.setDesc (h.counts S) (fun _ _ => rfl) ⟨Nat.one_le_iff_ne_zero.2 h0, by simp⟩ hvalues
    (.inr (fun _ => ⟨by simp, rfl, rfl⟩))

theorem retireBody (h : s.Accounted []) (p : Port) (forced : Bool) (S : Seg) :
    (retireBody p forced S s).1.Accounted [] := by
  cases hs : (s.desc S).state with
  | free => rw [retireBody_free forced hs]; exact h
  | retiring =>
    cases forced
    · rw [retireBody_again hs]; exact h
    · rw [retireBody_forced (.inl hs)]; exact h.forceRetire S
  | live =>
    by_cases h0 : (s.desc S).bindCount = 0
    · rw [retireBody_unheld forced hs h0]
      exact h.overwrite h0 rfl (Descriptor.freed_lifeOk _) (Descriptor.freed_valuesOk _)
    · cases forced
      · rw [retireBody_graceful hs h0]; exact h.retireGracefully p hs h0
      · rw [retireBody_forced (.inr ⟨hs, h0⟩)]; exact h.forceRetire S

end State.Accounted

/-! ### Requests of cursors -/

/-- A READ or WRITE that passes its checks finds its cursor on the segment it names. -/
theorem State.Accounted.seated_of_passes {s : State} {l : List Seg} {id : CursorId} {S : Seg} {z : AccessSize}
    (h : s.Accounted l) (hp : accessCheck s id z = .ok S) : (s.cursor id).Seated s S :=
  let ⟨hbound, hsegment, _⟩ := passes_of_accessCheck hp
  (h.cursors id).seated_of_bound hbound hsegment

namespace State.Accounted

variable {s t : State} {l l' : List Seg}

theorem openBody (h : s.Accounted []) (id : CursorId) (S : Seg) (offset : Word) (stride : BitVec 16)
    (expected : Option (BitVec 8)) : (openBody id S offset stride expected s).1.Accounted [] := by
  have hopen : (s.cursor id).state.holdsBinding = false →
      ∀ c : Cursor, c.state = .binding expected → ((s.setCursor id c).joinQueue id).Accounted [] := by
    intro hf c hc
    have hset : (s.setCursor id c).Accounted [] := h.setCursor (.of_state s (by simp [hc]) (by simp [hc]))
      (by rw [Cursor.bindings_of_free hf, Cursor.bindings_of_free (by rw [hc]; rfl)])
    exact hset.congr (by simp) (by simp) (by simp)
  unfold Machine.openBody
  dsimp only
  split
  · next hs => exact hopen (by rw [hs]; rfl) _ rfl
  · next hs => exact hopen (by rw [hs]; rfl) _ rfl
  · exact h

theorem closeCursor (h : s.Accounted l) (id : CursorId) : (s.closeCursor id).Accounted l := by
  by_cases hc : (s.cursor id).state = .closed
  · rw [State.closeCursor_of_closed s id hc]; exact h
  · rw [State.closeCursor_of_open s id hc]
    exact (h.clear id).congr (by simp) (by simp) (by simp)

theorem seekBody (h : s.Accounted []) (id : CursorId) (offset : Word) (stride : Option (BitVec 16)) :
    (seekBody id offset stride s).1.Accounted [] := by
  have htaken : ∀ S, (s.cursor id).Seated s S → offset.toNat < (s.desc S).length →
      (seekTaken id offset stride (s.desc S).length s).1.Accounted [] := by
    intro S hseat hin
    have hlen := (h.valid S).length_le
    have hoff : offset.toInt = offset.toNat := by rw [BitVec.toInt_eq_toNat_cond, if_pos (by omega)]
    have hset := h.reseat
      (c := { s.cursor id with state := .bound, offset := offset, stride := stride.getD (s.cursor id).stride }) hseat
      ⟨fun _ => ⟨S, hseat.segment, hseat.matched, by rw [hoff]; omega, by rw [hoff]; omega⟩, by simp⟩
      (Cursor.bindings_of_holds rfl hseat.segment)
    exact hset.congr (by simp [seekTaken]) (by simp [seekTaken]) (by simp [seekTaken])
  unfold Machine.seekBody
  dsimp only
  split
  case h_6 hb =>
    split
    · next S hs =>
      split
      · exact htaken S ((h.cursors id).seated_of_bound hb hs) (by assumption)
      · exact h
    · exact h
  case h_7 side hb =>
    split
    · next S hs =>
      split
      · exact htaken S ((h.cursors id).seated_of_exhausted hb hs) (by assumption)
      · exact h
    · exact h
  all_goals exact h

/-- An advance after the slot, the buffers, the queue or the tally have changed. -/
theorem readDone {u : State} (hu : u.Accounted []) {id : CursorId} {S : Seg} (hseat : (u.cursor id).Seated u S)
    (z : AccessSize) (bytes : List Byte) (n : Nat) : (readDone id S z bytes n u).1.Accounted [] :=
  hu.advance hseat 1

theorem readAhead (h : s.Accounted []) {id : CursorId} {S : Seg} (hseat : (s.cursor id).Seated s S) (z : AccessSize) :
    (readAhead id S z s).1.Accounted [] := by
  have hmiss : (readMiss id S z s).1.Accounted [] :=
    h.congr (by simp [readMiss]) (by simp [readMiss]) (by simp [readMiss])
  have hcollect : (s.collectSlot id).Accounted [] :=
    h.congr (by simp [State.collectSlot]) (by simp [State.collectSlot]) (by simp [State.collectSlot])
  unfold Machine.readAhead
  split
  · split
    · exact hmiss
    · dsimp only
      split
      · have hused : ∀ b, (s.setBuffer id b).Accounted [] := fun b => h.congr (by simp) (by simp) (by simp)
        exact (hused _).readDone ⟨hseat.segment, hseat.holds, hseat.matched⟩ z _ _
      · exact hmiss
    · exact h.congr (by simp [readRetarget]) (by simp [readRetarget]) (by simp [readRetarget])
  · split <;> exact h
  · split
    · unfold readCollect
      split
      · have hused : ∀ b, ((s.collectSlot id).setBuffer id b).Accounted [] := fun b =>
          hcollect.congr (fun _ => rfl) (fun _ => rfl) (fun _ => rfl)
        exact (hused _).readDone ⟨hseat.segment, hseat.holds, hseat.matched⟩ z _ _
      · exact hcollect
      · exact hcollect
    · exact h

theorem readBody (h : s.Accounted []) (id : CursorId) (z : AccessSize) : (readBody id z s).1.Accounted [] := by
  unfold Machine.readBody
  split
  · exact h
  · next hp => exact h.readAhead (h.seated_of_passes hp) z

theorem writeBody (h : s.Accounted []) (id : CursorId) (z : AccessSize) (data : List Word) :
    (writeBody id z data s).1.Accounted [] := by
  unfold Machine.writeBody
  split
  · exact h
  · next S hp =>
    have hseat := h.seated_of_passes hp
    split
    · exact h
    · split
      · exact h
      · split
        · exact h
        · have hposted : ((s.setPostQueue (s.postQueue ++ [postEntry id S z data s])).sweep
              (postEntry id S z data s)).Accounted [] := h.congr (by simp) (by simp) (by simp)
          exact hposted.advance ⟨hseat.segment, hseat.holds, hseat.matched⟩ 1

/-! ### Requests of the stack -/

/-- A PUSH of a cursor that holds a binding claims a second one for its context (R83). -/
theorem pushHeld (h : s.Accounted []) {id : CursorId} {S : Seg} {side : Option Side} {mark : Mark}
    (hholds : (s.cursor id).holds S = true) (hmark : mark.holdsBinding = true)
    (hx : s.ContextPlaced (contextOf (s.cursor id) S side mark)) : (pushHeld id S side mark s).1.Accounted [] := by
  have hpos : 0 < s.holders S := by
    apply Nat.pos_of_ne_zero
    intro h0
    rw [State.not_holds_of_holders_eq_zero h0 id] at hholds
    cases hholds
  unfold Machine.pushHeld
  dsimp only
  split
  · exact h
  · have hclaim := h.claim (h.state_ne_free (S := S) (by omega))
    have hall : ∀ x ∈ contextOf (s.cursor id) S side mark :: s.stack id.port, (s.claim S).ContextPlaced x := by
      intro x hmem
      have hs : s.ContextPlaced x := by
        rcases List.mem_cons.1 hmem with rfl | hold
        · exact hx
        · exact h.contexts _ x hold
      exact hs.mono (fun _ => s.samePlace_claim S x.segment)
    have hpush := hclaim.setStack (p := id.port) (l' := []) hall (by
      have hb : (contextOf (s.cursor id) S side mark).bindings = [S] := by
        simp [Context.bindings, contextOf, hmark]
      rw [List.flatMap_cons, hb, List.append_nil, State.stack_claim]
      exact List.perm_append_comm)
    exact hpush.congr (by simp) (by simp) (by simp)

theorem pushBody (h : s.Accounted []) (id : CursorId) : (pushBody id s).1.Accounted [] := by
  have hp := h.cursors id
  unfold Machine.pushBody
  split
  · next S hs hb =>
    obtain ⟨T, hT, hm, hin⟩ := hp.bound hb
    obtain rfl : S = T := by rw [hs] at hT; exact Option.some.inj hT
    exact h.pushHeld ((Cursor.holds_iff _ _).2 ⟨hs, .inl hb⟩) rfl (fun _ => ⟨hm, fun _ => hin⟩)
  · next S side hs hb =>
    have hseat := hp.seated_of_exhausted hb hs
    exact h.pushHeld ((Cursor.holds_iff _ _).2 ⟨hs, .inr (.inl ⟨side, hb⟩)⟩) rfl
      (fun _ => ⟨hseat.matched, fun e => by cases e⟩)
  · next S hs hb =>
    exact h.pushHeld ((Cursor.holds_iff _ _).2 ⟨hs, .inr (.inr hb)⟩) rfl (fun e => by cases e)
  · exact h

/-- The top context is taken off a stack; its binding is loose. -/
theorem unstack (h : s.Accounted l) {p : Port} {x : Context} {rest : List Context} (hst : s.stack p = x :: rest) :
    (s.setStack p rest).Accounted (x.bindings ++ l) :=
  h.setStack (fun y hy => h.contexts p y (by rw [hst]; exact List.mem_cons_of_mem _ hy)) (by
    rw [hst, List.flatMap_cons]
    simpa using (List.perm_append_comm_assoc _ _ _))

/-- A cursor takes the binding of a context that is restored into it (R86 to R88). -/
theorem restore {id : CursorId} {x : Context} (h : (s.setCursor id Cursor.closed).Accounted (x.bindings ++ l))
    (hx : s.ContextPlaced x) (k : Nat) : (s.restore id x k).Accounted l := by
  have hrecord : ∀ (st : CursorState) (o : Word) (w : Bool), st.holdsBinding = x.mark.holdsBinding →
      (x.cursor st o w).PlacedIn s → (s.setCursor id (x.cursor st o w)).Accounted l := by
    intro st o w hst hc
    refine fill ?_ hc
    have hb : (x.cursor st o w).bindings = x.bindings := by
      simp only [Cursor.bindings, Context.bindings, Context.cursor, hst, Option.toList_some]
    rw [hb]; exact h
  unfold State.restore
  cases hm : x.mark <;> dsimp only
  case stale =>
    have hset := hrecord .revalidating (s.heldOffset (-2147483648) 2147483647 (x.offset.toInt + k * x.stride.toInt))
      x.writeRight (by rw [hm]; rfl) (.of_state s (by simp [Context.cursor]) (by simp [Context.cursor]))
    exact hset.congr (by simp [State.restoreStale]) (by simp [State.restoreStale]) (by simp [State.restoreStale])
  case revoked =>
    exact hrecord (.faulted .revoked) x.offset false (by rw [hm]; rfl)
      (.of_state s (by simp [Context.cursor]) (by simp [Context.cursor]))
  case valid =>
    obtain ⟨hmatch, hin⟩ := hx hm
    have hadvance : ∀ st : CursorState, st.holdsBinding = true →
        (x.cursor st x.offset x.writeRight).PlacedIn s →
        (if k = 0 then s.setCursor id (x.cursor st x.offset x.writeRight)
          else (s.setCursor id (x.cursor st x.offset x.writeRight)).advance id x.segment k).Accounted l := by
      intro st hst hc
      have hset := hrecord st x.offset x.writeRight (by rw [hm, hst]; rfl) hc
      split
      · exact hset
      · refine hset.advance ?_ k
        rw [State.cursor_setCursor, if_pos rfl]
        exact ⟨rfl, hst, hmatch⟩
    unfold State.restoreValid
    cases hs : x.side with
    | none => exact hadvance .bound rfl ⟨fun _ => ⟨_, rfl, hmatch, hin hs⟩, by simp [Context.cursor]⟩
    | some side => exact hadvance (.exhausted side) rfl ⟨by simp [Context.cursor], fun _ _ => ⟨_, rfl, hmatch⟩⟩

theorem popBody (h : s.Accounted []) (id : CursorId) (k : Nat) : (popBody id k s).1.Accounted [] := by
  unfold Machine.popBody
  split
  · exact h
  · split
    · exact h
    · next x rest hst =>
      have hst' : ((s.releaseOf (s.cursor id)).setCursor id Cursor.closed).stack id.port = x :: rest := by
        simpa using hst
      have hclear := h.clear id
      have hx := hclear.contexts id.port x (by rw [hst']; exact List.mem_cons_self ..)
      have hpopped : (((s.popClear id).setStack id.port rest).setCursor id Cursor.closed).Accounted
          (x.bindings ++ []) :=
        (hclear.unstack hst').congr (by simp [State.popClear]) (by simp [State.popClear]) (by simp [State.popClear])
      exact hpopped.restore (hx.congr (by simp [State.popClear])) k

theorem dropBody (h : s.Accounted []) (p : Port) : (dropBody p s).1.Accounted [] := by
  unfold Machine.dropBody
  split
  · exact h
  · next x rest hst => exact (h.unstack hst).letGo

/-! ### Resets -/

/-- Contexts let go one after the other take their loose bindings with them (R81). -/
theorem letGoAll {st : List Context} (h : s.Accounted (st.flatMap Context.bindings ++ l)) :
    (st.foldl (fun t x => t.letGo x) s).Accounted l := by
  induction st generalizing s with
  | nil => exact h
  | cons x rest ih =>
    rw [List.flatMap_cons, List.append_assoc] at h
    exact ih h.letGo

/-- A port reset keeps the account: its cursors are closed and its contexts let go (R170). -/
theorem resetPort (h : s.Accounted []) (q : Port) : (s.resetPort q).Accounted [] := by
  have hcursors : ∀ u : State, u.Accounted [] → (u.resetCursors q).Accounted [] := fun u hu =>
    List.foldlRecOn (motive := fun v : State => v.Accounted []) allCursorNos _ hu
      (fun _ hv c _ => hv.closeCursor ⟨q, c⟩)
  have hstack : ∀ u : State, u.Accounted [] → (u.resetStack q).Accounted [] := by
    intro u hu
    have hempty : (u.setStack q []).Accounted ((u.stack q).flatMap Context.bindings ++ []) :=
      hu.setStack (by simp) (by simp)
    unfold State.resetStack
    exact hempty.letGoAll
  have h1 : (s.setNotices q ⟨[], false⟩).Accounted [] := h.congr (by simp) (by simp) (by simp)
  have hrecord : ∀ u : State, u.Accounted [] → (u.resetRecord q).Accounted [] := fun u hu =>
    hu.congr (by simp [State.resetRecord]) (by simp [State.resetRecord]) (by simp [State.resetRecord])
  exact hrecord _ (hstack _ (hcursors _ h1))

end State.Accounted

/-- The reset state has no bindings to account for. -/
theorem State.accounted_reset : State.reset.Accounted [] where
  counts S := by
    rw [State.reset_desc]
    simp only [State.holders, State.heldContexts, State.reset_cursor, State.reset_stack]
    rfl
  lives S := by rw [State.reset_desc]; exact ⟨rfl, rfl⟩
  valid S := by rw [State.reset_desc]; exact ⟨rfl, rfl, rfl, rfl, rfl, rfl⟩
  cursors id := by rw [State.reset_cursor]; exact .of_state _ (by simp [Cursor.closed]) (by simp [Cursor.closed])
  contexts p x hx := by rw [State.reset_stack] at hx; cases hx

/-! ### Events that leave the table alone -/

/-- An event that changes neither the table nor the cursors nor the stacks keeps the account. -/
theorem State.Accounted.of_onlyChanges {s t : State} {l : List Seg} (h : s.Accounted l) {parts : List Part}
    (ho : s.OnlyChanges t parts) (hd : Part.dt ∉ parts) (hc : Part.cursors ∉ parts)
    (hs : Part.ctxStacks ∉ parts) : t.Accounted l :=
  h.congr (fun S => by rw [State.desc, show t.dt = s.dt from ho _ hd]; rfl)
    (fun id => by rw [State.cursor, show t.cursors = s.cursors from ho _ hc]; rfl)
    (fun p => by rw [State.stack, show t.ctxStacks = s.ctxStacks from ho _ hs]; rfl)

theorem State.onlyChanges_grantTo (s : State) (t : TagNo) :
    s.OnlyChanges (s.grantTo t) [.tags, .buffers, .fillList, .postQueue, .alternation, .memRequest] := by
  have hfill : ∀ id, s.OnlyChanges (s.grantFill t id)
      [.tags, .buffers, .fillList, .postQueue, .alternation, .memRequest] := by
    intro id q hq
    unfold State.grantFill
    split
    · cases q <;> simp_all [State.agree, State.startTag]
    · cases q <;> rfl
  have hwrite : ∀ e, s.OnlyChanges (s.grantWrite t e)
      [.tags, .buffers, .fillList, .postQueue, .alternation, .memRequest] := by
    intro e q hq
    cases q <;> simp_all [State.agree, State.grantWrite, State.startTag]
  unfold State.grantTo
  split
  · exact .refl s _
  · exact hfill _
  · exact hwrite _
  · split
    · exact hfill _
    · exact hwrite _

namespace State.Accounted

variable {s t : State} {l : List Seg}

theorem setTag (h : s.Accounted l) (n : TagNo) (x : Tag) : (s.setTag n x).Accounted l :=
  h.congr (by simp) (by simp) (by simp)

theorem setRespChannel (h : s.Accounted l) (c : RespChannel) : (s.setRespChannel c).Accounted l :=
  h.congr (by simp) (by simp) (by simp)

theorem deliver (h : s.Accounted l) (n : TagNo) (owner : TagOwner) (d : Delivery) :
    (s.deliver n owner d).Accounted l :=
  h.of_onlyChanges (s.onlyChanges_deliver n owner d) (by decide) (by decide) (by decide)

theorem takeResponse (h : s.Accounted l) (n : TagNo) (error : Bool) (beats : List Lines) :
    (s.takeResponse n error beats).Accounted l := by
  unfold State.takeResponse
  split
  · exact (h.setTag n _).deliver n _ _
  · exact h.setTag n _
  · exact h

theorem endResponse (h : s.Accounted l) (n : TagNo) (error : Bool) (beats : List Lines) :
    (s.endResponse n error beats).Accounted l := by
  unfold State.endResponse
  split
  · exact h.takeResponse ..
  · exact (h.setRespChannel _).takeResponse ..
  · exact h.setRespChannel _

theorem beginResponse (h : s.Accounted l) (n : TagNo) (error : Bool) (data : Lines) :
    (s.beginResponse n error data).Accounted l := by
  unfold State.beginResponse
  split
  · exact (h.setTag n _).setRespChannel _
  · exact (h.setTag n _).setRespChannel _
  · exact h.setRespChannel _

theorem notify (h : s.Accounted l) (p : Port) (n : Notice) : (s.notify p n).Accounted l :=
  h.congr (by simp) (by simp) (by simp)

theorem setPort (h : s.Accounted l) (p : Port) (r : PortRec) : (s.setPort p r).Accounted l :=
  h.congr (by simp) (by simp) (by simp)

theorem notifyQuarantine (h : s.Accounted l) (q : Port) : (s.notifyQuarantine q).Accounted l := by
  refine List.foldlRecOn (motive := fun u : State => u.Accounted l) allPorts _ h (fun u hu p _ => ?_)
  split
  · exact hu.notify _ _
  · exact hu

theorem countExpiry (h : s.Accounted l) (q : Port) : (s.countExpiry q).Accounted l := by
  unfold State.countExpiry
  dsimp only
  split
  · exact (h.setPort _ _).notifyQuarantine q
  · exact h.setPort _ _

theorem discard (h : s.Accounted l) (id : CursorId) : (s.discard id).Accounted l := by
  have hslot : (s.setSlot id .empty).Accounted l := h.congr (by simp) (by simp) (by simp)
  have hbuffer : ∀ b, ((s.setSlot id .empty).setBuffer id b).Accounted l := fun b =>
    hslot.congr (by simp) (by simp) (by simp)
  unfold State.discard
  split
  · exact hslot.countExpiry _
  · exact ((hbuffer _).notify _ _).countExpiry _

theorem serveEntry (h : s.Accounted l) (p : Port) (level : Priority) : (s.serveEntry p level).Accounted l := by
  unfold State.serveEntry
  split
  · exact h
  · next c rest _ =>
    have hpopped : ((s.setMapQueue p rest).setMark level p).Accounted l := h.congr (by simp) (by simp) (by simp)
    exact hpopped.place _

theorem answer (h : s.Accounted l) (p : Port) (r : Response) : (s.answer p r).Accounted l :=
  h.congr (by simp) (by simp) (by simp)

theorem holdRequest (h : s.Accounted l) (p : Port) (i : Instr) : (s.holdRequest p i).Accounted l :=
  h.congr (by simp) (by simp) (by simp)

theorem setPortBody (h : s.Accounted []) (q : Port) (a : Option Authority) (pr : Option Priority) (n : Option Nat)
    (i : Option Interval) : (setPortBody q a pr n i s).1.Accounted [] := by
  unfold Machine.setPortBody
  dsimp only
  split
  · exact h
  · exact h.setPort _ _

theorem releasePortBody (h : s.Accounted []) (q : Port) : (releasePortBody q s).1.Accounted [] := by
  unfold Machine.releasePortBody
  split
  · exact h
  · exact (h.setPort _ _).notify _ _

theorem fetchBody (h : s.Accounted []) (p : Port) : (fetchBody p s).1.Accounted [] := by
  unfold Machine.fetchBody
  dsimp only
  split
  all_goals exact h.congr (by simp) (by simp) (by simp)

/-! ### A step -/

/-- A request keeps the account when what it carries out keeps it: waiting and refusals change the link alone. -/
theorem serve {i : Instr} {p : Port} {f : Option ArgField} {tb qt : Bool} {body : State → State × Response}
    (h : s.Accounted []) (hs : serve i p f tb qt body s = .next t) (hbody : (body s).1.Accounted []) :
    t.Accounted [] := by
  rcases serve_cases i p f tb qt body s with ⟨-, e⟩ | ⟨r, -, -, e⟩ | ⟨-, -, e⟩ <;> rw [e] at hs <;> cases hs
  · exact h.holdRequest p i
  · exact h.answer p _
  · exact hbody.answer p _

theorem refuseForm {i : Instr} {p : Port} (h : s.Accounted []) (hs : refuseForm i p s = .next t) :
    t.Accounted [] := by
  unfold Machine.refuseForm at hs
  split at hs <;> cases hs
  · exact h.answer p _
  · exact h.holdRequest p i

theorem exec (h : s.Accounted []) {i : Instr} (hs : exec i s = .next t) : t.Accounted [] := by
  cases i with
  | openCursor p n stride segment offset generation =>
    simp only [Machine.exec, execOpen] at hs
    exact h.serve hs (h.openBody _ _ _ _ _)
  | closeCursor p n =>
    simp only [Machine.exec, execClose] at hs
    exact h.serve hs (h.closeCursor _)
  | seek p n offset stride =>
    simp only [Machine.exec, execSeek] at hs
    exact h.serve hs (h.seekBody _ _ _)
  | read p n size =>
    simp only [Machine.exec, execRead] at hs
    exact h.serve hs (h.readBody _ _)
  | write p n size data =>
    simp only [Machine.exec, execWrite] at hs
    split at hs
    · exact h.serve hs (h.writeBody _ _ _)
    · exact h.refuseForm hs
  | queryCursor p n part =>
    simp only [Machine.exec, execQueryCursor] at hs
    exact h.serve hs h
  | push p n =>
    simp only [Machine.exec, execPush] at hs
    exact h.serve hs (h.pushBody _)
  | pop p n k =>
    simp only [Machine.exec, execPop] at hs
    exact h.serve hs (h.popBody _ _)
  | drop p =>
    simp only [Machine.exec, execDrop] at hs
    exact h.serve hs (h.dropBody _)
  | stage p base length link rights depth keep =>
    simp only [Machine.exec, execStage] at hs
    exact h.serve hs (h.setPort _ _)
  | commit p segment =>
    simp only [Machine.exec, execCommit] at hs
    exact h.serve hs (h.commitBody _ _)
  | retire p mode segment =>
    simp only [Machine.exec, execRetire] at hs
    exact h.serve hs (h.retireBody _ _ _)
  | querySegment p part segment =>
    simp only [Machine.exec, execQuerySegment] at hs
    exact h.serve hs h
  | fetchNotice p =>
    simp only [Machine.exec, execFetchNotice] at hs
    exact h.serve hs (h.fetchBody _)
  | setPort p n a pr limit interval =>
    simp only [Machine.exec, execSetPort] at hs
    exact h.serve hs (h.setPortBody _ _ _ _ _)
  | releasePort p n =>
    simp only [Machine.exec, execReleasePort] at hs
    exact h.serve hs (h.releasePortBody _)
  | resetPort p n =>
    simp only [Machine.exec, execResetPort] at hs
    exact h.serve hs (h.resetPort _)
  | badRequest p frame =>
    simp only [Machine.exec, execBadRequest] at hs
    exact h.refuseForm hs
  | placementService =>
    simp only [Machine.exec, execPlacementService] at hs
    split at hs <;> cases hs
    · exact h
    · exact h.serveEntry _ _
  | grant memReady =>
    simp only [Machine.exec, execGrant] at hs
    split at hs
    · split at hs <;> cases hs
      · exact h
      · exact h.of_onlyChanges (s.onlyChanges_grantTo _) (by decide) (by decide) (by decide)
    · cases hs; exact h
  | responseFirstBeat n error data =>
    simp only [Machine.exec, execFirstBeat] at hs
    split at hs <;> cases hs
    · exact h.beginResponse ..
    · exact h
    · exact h
  | memoryResponse n error beats =>
    simp only [Machine.exec, execMemoryResponse] at hs
    cases hs
    exact h.endResponse ..
  | lateOrStrayResponse n error beats =>
    simp only [Machine.exec, execLateOrStray] at hs
    cases hs
    exact h.endResponse ..
  | responseTimerExpiry n =>
    simp only [Machine.exec, execResponseTimerExpiry] at hs
    split at hs <;> cases hs
    · exact (h.setTag n _).deliver n _ _
    · exact h
    · exact h
    · exact h
  | discardTimerExpiry p c =>
    simp only [Machine.exec, execDiscardTimerExpiry] at hs
    split at hs <;> cases hs
    · exact h.discard _
    · exact h
    · exact h
  | deviceReset straps =>
    simp only [Machine.exec, execDeviceReset] at hs
    cases hs
    exact State.accounted_reset.congr (fun _ => rfl) (fun _ => rfl) (fun _ => rfl)
  | responseLastWordPassed p =>
    simp only [Machine.exec, execLastWordPassed] at hs
    cases hs
    exact h.congr (by simp) (by simp) (by simp)

end State.Accounted

/-- Settles O59: a step begins and ends with every binding on the account. -/
theorem stepKeepsTheTableConsistent : Obligations.StepKeepsTheTableConsistent := by
  intro s t h hs
  rw [State.tableConsistent_iff] at h ⊢
  unfold step at hs
  split at hs
  · cases hs; exact h
  · next c rest _ =>
    have hrest : State.Accounted { s with pending := rest } [] :=
      h.congr (fun _ => rfl) (fun _ => rfl) (fun _ => rfl)
    exact hrest.exec hs

end Sys2Proof.Machine
end

section
/-! ## A step, STAGE and COMMIT (O1, O12 to O16) -/

namespace Sys2Proof.Machine

/-- Settles O1: both halves are the two cases of step. -/
theorem stepRunsTheFrontCommand : Obligations.StepRunsTheFrontCommand := by
  constructor
  · intro c s
    rfl
  · intro s h
    unfold step
    rw [h]

/-! ### STAGE (R13) -/

/-- A field given takes the place of the old one (R13). -/
theorem orKeep_eq {α : Type} (new old : Option α) : orKeep new old = (new <|> old) := by
  cases new <;> rfl

/-- Settles O12. -/
theorem stageWritesTheFieldsNamed : Obligations.StageWritesTheFieldsNamed := by
  intro p base len link rights depth keep s hadm hrange
  refine ⟨_, exec_stage hadm hrange, ?_, ?_, ?_⟩
  · refine State.Took.of_body (fun q hq => ?_) rfl
    cases q <;> simp_all [State.agree]
  · intro q hq
    simp [hq]
  · simp [Staging.write, orKeep_eq]

/-! ### COMMIT (R14 to R19) -/

/-- Settles O13. -/
theorem commitInstallsOnFree : Obligations.CommitInstallsOnFree := by
  intro p segment b n r s
  dsimp only
  intro hadm hseg hs hb hn hr hb64 hnlow hnhigh hn64 hend hdepth
  have hg : (s.port p).staging ≠ Staging.empty := fun e => by rw [e] at hb; cases hb
  have hv : validateRecord b n.toNat ((s.port p).staging.depth.getD 0) = none :=
    (validateRecord_eq_none _ _ _).2 ⟨hb64, hnlow, hnhigh, hn64, hend, by simpa using hdepth⟩
  have he := exec_commit hadm hseg
  rw [commitBody_install hg hs (installRecord_staged hb hn hr) hv] at he
  exact ⟨_, he, .of_body (s.onlyChanges_commitDone _ _ _) rfl, by simp [commitDone],
    fun T hT => by simp [commitDone, hT], by simp [commitDone], fun q hq => by simp [commitDone, hq]⟩

/-- Settles O14. -/
theorem commitReplacesOnLive : Obligations.CommitReplacesOnLive := by
  intro p segment s
  dsimp only
  intro hadm hseg hs hg hb64 hnlow hnhigh hn64 hend hdepth
  have hv : validateRecord ((s.port p).staging.base.getD (s.desc (segNo segment)).base)
      (((s.port p).staging.length.map (fun x => x.toNat)).getD (s.desc (segNo segment)).length)
      ((s.port p).staging.depth.getD (s.desc (segNo segment)).depth) = none :=
    (validateRecord_eq_none _ _ _).2 ⟨hb64, hnlow, hnhigh, hn64, hend, by simpa using hdepth⟩
  have he := exec_commit hadm hseg
  rw [commitBody_replace hg hs rfl hv] at he
  refine ⟨_, he, .of_body ?_ rfl, ?_, fun T hT => ?_, ?_, fun q hq => ?_⟩
  · exact (s.onlyChanges_commitDone _ _ _).trans (State.onlyChanges_broadcastReplace _ _)
  · simp [commitDone, replacementRecord]
  · simp [commitDone, hT]
  · simp [commitDone]
  · simp [commitDone, hq]

/-- Settles O15: each part of the state is read off the broadcast. -/
theorem replacementReachesEveryHolder : Obligations.ReplacementReachesEveryHolder := by
  intro p segment s
  dsimp only
  intro hadm hseg hs hg hv
  have he := exec_commit hadm hseg
  rw [commitBody_replace hg hs rfl hv] at he
  refine ⟨_, he, fun id hturned => ?_, fun id hkept => ?_, ?_, fun q => ?_, fun q => ?_, ?_, fun q => ?_,
    fun T => ?_⟩
  · have hhit := (Cursor.replacedBy_iff _ _).2 hturned
    simp [commitDone, hhit]
  · have hmiss := mt (Cursor.replacedBy_iff _ _).1 hkept
    simp [commitDone, hmiss]
  · simp [commitDone]
  · refine ⟨allCursorNos.filter (fun c => (s.cursor ⟨q, c⟩).replacedBy (segNo segment)), by simp [commitDone], ?_,
      fun c => ?_⟩
    · exact List.Pairwise.filter _ (by decide)
    · have hc : c ∈ allCursorNos := by revert c; decide
      rw [List.mem_filter, Cursor.replacedBy_iff]
      exact and_iff_right hc
  · simp [commitDone, Context.replaced]
  · simp [commitDone]
  · by_cases hq : q = p <;> simp [commitDone, hq]
  · by_cases hT : T = segNo segment <;> simp [commitDone, hT, replacementRecord]

/-- The field that fails validation (R15). -/
theorem validateRecord_eq_some {b : Word} {n k : Nat}
    (h : ¬ (b.toNat % 64 = 0 ∧ 64 ≤ n ∧ n ≤ 16777216 ∧ n % 64 = 0 ∧ b.toNat + n ≤ 4294967296 ∧
      k ∈ [0, 16, 32, 64])) :
    validateRecord b n k = some
      (if b.toNat % 64 ≠ 0 then .base
        else if n < 64 ∨ 16777216 < n ∨ n % 64 ≠ 0 ∨ 4294967296 < b.toNat + n then .length
        else .depth) := by
  simp only [List.mem_cons, List.not_mem_nil, or_false] at h
  unfold validateRecord Config.maxSegmentLength
  by_cases h1 : b.toNat % 64 ≠ 0
  · rw [if_pos h1, if_pos h1]
  · rw [if_neg h1, if_neg h1]
    by_cases h2 : n < 64 ∨ 16777216 < n ∨ n % 64 ≠ 0
    · rw [if_pos h2, if_pos (by omega)]
    · rw [if_neg h2]
      by_cases h3 : 4294967296 < b.toNat + n
      · rw [if_pos h3, if_pos (by omega)]
      · rw [if_neg h3, if_neg (by omega), if_neg (by omega)]

/-- Settles O16: one refusal of the body for each clause. -/
theorem commitRefusalsInOrder : Obligations.CommitRefusalsInOrder := by
  intro p segment s
  dsimp only
  intro hadm hseg
  have hrefused : ∀ r, commitBody p (segNo segment) s = (s, .refused r) →
      exec (.commit p segment) s = .next (s.answer p (.refused r)) := by
    intro r hr
    rw [exec_commit hadm hseg, hr]
  have hsome : (s.port p).staging.base ≠ none → (s.port p).staging ≠ Staging.empty :=
    fun hb e => hb (by rw [e]; rfl)
  refine ⟨fun hg => ?_, fun hg hs => ?_, fun hg hs hb => ?_, fun hb hs hn => ?_, fun hb hn hs hr => ?_,
    fun b n r hb hn hr hs hinvalid => ?_, fun hg hs hinvalid => ?_⟩
  · exact hrefused _ (commitBody_nothingStaged hg)
  · exact hrefused _ (commitBody_retiring hg hs)
  · exact hrefused _ (commitBody_unstaged hg hs (by simp [installRecord, hb]))
  · obtain ⟨b, hb'⟩ := Option.ne_none_iff_exists'.1 hb
    exact hrefused _ (commitBody_unstaged (hsome hb) hs (by simp [installRecord, hb', hn]))
  · obtain ⟨b, hb'⟩ := Option.ne_none_iff_exists'.1 hb
    obtain ⟨n, hn'⟩ := Option.ne_none_iff_exists'.1 hn
    exact hrefused _ (commitBody_unstaged (hsome hb) hs (by simp [installRecord, hb', hn', hr]))
  · exact hrefused _ (commitBody_installInvalid (hsome (by simp [hb])) hs (installRecord_staged hb hn hr)
      (validateRecord_eq_some hinvalid))
  · exact hrefused _ (commitBody_replaceInvalid hg hs rfl (validateRecord_eq_some hinvalid))

end Sys2Proof.Machine
end

section
/-! ## RETIRE and QUERY_SEGMENT (O17 to O19) -/

namespace Sys2Proof.Machine

/-! ### RETIRE without revocation (R20 to R22) -/

/-- Settles O17: the cells of R20's table in which nobody is revoked. -/
theorem retireWithoutRevocation : Obligations.RetireWithoutRevocation := by
  intro p mode segment s
  dsimp only
  intro hadm hmode hseg
  have he := exec_retire hadm hmode hseg
  refine ⟨fun hs => ?_, fun hs h0 => ?_, fun hs h0 hgraceful => ?_, fun hs hgraceful => ?_⟩
  · rw [he, retireBody_free _ hs]
  · rw [retireBody_unheld _ hs h0] at he
    exact ⟨_, he, .of_body (s.onlyChanges_setDesc _ _) rfl, by simp [Descriptor.freed], fun T hT => by simp [hT]⟩
  · subst hgraceful
    rw [show decide ((0 : BitVec 8) = 1) = false from rfl, retireBody_graceful hs h0] at he
    exact ⟨_, he, .of_body (s.onlyChanges_setDesc _ _) rfl, by simp, fun T hT => by simp [hT]⟩
  · subst hgraceful
    rw [he, show decide ((0 : BitVec 8) = 1) = false from rfl, retireBody_again hs]

/-! ### The forced retirement (R24 to R26) -/

theorem State.noticeQueue_notifyRevoked (s : State) (S : Seg) (a b : Nat) (p q : Port) :
    (s.notifyRevoked S a b p).noticeQueue q =
      if q = p ∧ ¬ (a = 0 ∧ b = 0) then (s.noticeQueue q).push (.revoked S a b) else s.noticeQueue q := by
  unfold State.notifyRevoked
  by_cases h : a = 0 ∧ b = 0
  · simp [h]
  · by_cases hq : q = p
    · subst hq; simp [h]
    · simp [h, hq]

/-- REVOKED notices sent to the ports of a list, each once: a port of the list with holders gets its own. -/
theorem State.noticeQueue_foldl_notifyRevoked (S : Seg) (f g : Port → Nat) (q : Port) {ps : List Port}
    (hnd : ps.Nodup) (s : State) :
    (ps.foldl (fun t p => t.notifyRevoked S (f p) (g p) p) s).noticeQueue q =
      if q ∈ ps ∧ ¬ (f q = 0 ∧ g q = 0) then (s.noticeQueue q).push (.revoked S (f q) (g q))
      else s.noticeQueue q := by
  induction ps generalizing s with
  | nil => simp
  | cons p ps ih =>
    obtain ⟨hp, hps⟩ := List.nodup_cons.1 hnd
    rw [List.foldl_cons, ih hps, State.noticeQueue_notifyRevoked]
    by_cases hq : q = p
    · subst hq; simp [hp]
    · simp [hq]

theorem State.noticeQueue_notifyAllRevoked (s before : State) (S : Seg) (q : Port) :
    (s.notifyAllRevoked before S).noticeQueue q =
      if before.heldCursors q S = 0 ∧ before.heldContexts q S = 0 then s.noticeQueue q
      else (s.noticeQueue q).push (.revoked S (before.heldCursors q S) (before.heldContexts q S)) := by
  unfold State.notifyAllRevoked
  rw [State.noticeQueue_foldl_notifyRevoked S (fun p => before.heldCursors p S) (fun p => before.heldContexts p S) q
    allPorts_nodup]
  simp only [mem_allPorts, true_and, ite_not]

theorem State.noticeQueue_notifyForced (s : State) (S : Seg) (d : Descriptor) (q : Port) :
    (s.notifyForced S d).noticeQueue q =
      if d.state = .retiring ∧ d.retiringPort = some q then (s.noticeQueue q).push (.retireComplete S .forced)
      else s.noticeQueue q := by
  unfold State.notifyForced
  split
  · next r hs hr =>
    by_cases hq : q = r
    · subst hq; simp [hs, hr]
    · simp [hs, hr, hq, Ne.symm hq]
  · next h =>
    rw [if_neg (fun e => h q e.1 e.2)]

/-- The notices a forced retirement sends to a port, in order (R26). -/
theorem State.noticeQueue_forceRetire (s : State) (S : Seg) (q : Port) :
    (s.forceRetire S).noticeQueue q =
      ((if s.heldCursors q S = 0 ∧ s.heldContexts q S = 0 then []
        else [Notice.revoked S (s.heldCursors q S) (s.heldContexts q S)]) ++
       (if (s.desc S).state = .retiring ∧ (s.desc S).retiringPort = some q then [Notice.retireComplete S .forced]
        else [])).foldl NoticeQueue.push (s.noticeQueue q) := by
  rw [State.forceRetire, State.noticeQueue_setDesc, State.noticeQueue_notifyForced, State.noticeQueue_notifyAllRevoked,
    State.noticeQueue_broadcastRevoke, List.foldl_append]
  split <;> split <;> rfl

/-- A context under the revocation of its segment (R25). -/
theorem Context.revoked_eq (x : Context) (S : Seg) :
    x.revoked S = if x.segment = S ∧ x.mark ≠ .revoked then { x with mark := .revoked } else x := by
  unfold Context.revoked Context.holds
  cases x.mark <;> simp [Mark.holdsBinding]

/-- Settles O18: each part of the state is read off the broadcast and the notices after it. -/
theorem forcedRetireRevokesEveryHolder : Obligations.ForcedRetireRevokesEveryHolder := by
  intro p segment s
  dsimp only
  intro hadm hseg hs
  have he := exec_retire hadm (mode := 1) (by decide) hseg
  rw [show decide ((1 : BitVec 8) = 1) = true from rfl, retireBody_forced hs] at he
  refine ⟨_, he, .of_body (s.onlyChanges_forceRetire _) (s.onlyChanges_forceRetire _ .links (by decide)), ?_,
    fun T hT => ?_, fun id hheld => ?_, fun id hfree => ?_, ?_, fun q => ?_, fun q => ?_, fun q => ?_⟩
  · simp [State.forceRetire, Descriptor.freed]
  · simp [State.forceRetire, hT]
  · have hhit := (Cursor.holds_iff _ _).2 hheld
    simp [State.forceRetire, Cursor.revoked, hhit]
  · have hmiss := mt (Cursor.holds_iff _ _).1 hfree
    simp [State.forceRetire, Cursor.revoked, hmiss]
  · simp [State.forceRetire]
  · simp [State.forceRetire]
  · simp [State.forceRetire, Context.revoked_eq]
  · rw [← State.noticeQueue_forceRetire]
    simp

/-! ### QUERY_SEGMENT: the fields of the record's words (section 10.3) -/

theorem rightsField_extract (r : Vector Rights 4) (q : Port) :
    (rightsField r).extractLsb' (2 * q.val) 2 = (fget r q).code := by
  have hq : q = 0 ∨ q = 1 ∨ q = 2 ∨ q = 3 := by revert q; decide
  unfold rightsField
  rcases hq with rfl | rfl | rfl | rfl
  all_goals
    simp (disch := decide) only [BitVec.extractLsb'_append_eq_of_add_le, BitVec.extractLsb'_append_eq_of_le]
    exact BitVec.extractLsb'_eq_self

/-- STATUS word 0 (R29). -/
theorem segmentStatusWord_fields (d : Descriptor) :
    (segmentStatusWord d).extractLsb' 0 8 = d.generation ∧ (segmentStatusWord d).extractLsb' 8 2 = d.state.code ∧
      (segmentStatusWord d).extractLsb' 10 6 = 0 ∧
      (segmentStatusWord d).extractLsb' 16 7 = BitVec.ofNat 7 d.bindCount ∧
      (segmentStatusWord d).getLsbD 23 = false ∧ (segmentStatusWord d).getLsbD 26 = d.retiringPort.isSome ∧
      (segmentStatusWord d).extractLsb' 27 5 = 0 ∧
      (segmentStatusWord d).extractLsb' 24 2 = BitVec.ofNat 2 (d.retiringPort.getD 0).val := by
  unfold segmentStatusWord
  refine ⟨?_, ?_, ?_, ?_, ?_, ?_, ?_, ?_⟩
  case refine_5 => simp only [BitVec.getLsbD_append]; simp
  case refine_6 => simp only [BitVec.getLsbD_append]; simp
  all_goals
    simp (disch := omega) only [BitVec.extractLsb'_append_eq_of_add_le, BitVec.extractLsb'_append_eq_of_le,
      BitVec.extractLsb'_eq_self, Nat.sub_self]

/-- STATUS word 1 (R29). -/
theorem segmentAttributesWord_fields (d : Descriptor) :
    (segmentAttributesWord d).extractLsb' 0 8 = segField d.link ∧
      (∀ q : Port, (segmentAttributesWord d).extractLsb' (8 + 2 * q.val) 2 = (fget d.rights q).code) ∧
      (segmentAttributesWord d).extractLsb' 16 7 = BitVec.ofNat 7 d.depth ∧
      (segmentAttributesWord d).getLsbD 23 = false ∧ (segmentAttributesWord d).getLsbD 24 = d.keep ∧
      (segmentAttributesWord d).extractLsb' 25 7 = 0 := by
  unfold segmentAttributesWord
  refine ⟨?_, fun q => ?_, ?_, ?_, ?_, ?_⟩
  case refine_2 =>
    have hq := q.isLt
    rw [← rightsField_extract d.rights q]
    simp (disch := omega) only [BitVec.extractLsb'_append_eq_of_add_le, BitVec.extractLsb'_append_eq_of_le,
      Nat.add_sub_cancel_left]
  case refine_4 => simp only [BitVec.getLsbD_append]; simp
  case refine_5 => simp only [BitVec.getLsbD_append]; simp
  all_goals
    simp (disch := omega) only [BitVec.extractLsb'_append_eq_of_add_le, BitVec.extractLsb'_append_eq_of_le,
      BitVec.extractLsb'_eq_self, Nat.sub_self]

/-- PLACE word 1 (R29). -/
theorem segmentLengthWord_fields (d : Descriptor) :
    (segmentLengthWord d).extractLsb' 0 8 = d.generation ∧
      (segmentLengthWord d).extractLsb' 8 19 = BitVec.ofNat 19 (d.length / 64) ∧
      (segmentLengthWord d).extractLsb' 27 5 = 0 := by
  unfold segmentLengthWord
  refine ⟨?_, ?_, ?_⟩ <;>
    simp (disch := omega) only [BitVec.extractLsb'_append_eq_of_add_le, BitVec.extractLsb'_append_eq_of_le,
      BitVec.extractLsb'_eq_self, Nat.sub_self]

/-- Settles O19: the fields of the words, each within its width. -/
theorem querySegmentReportsTheRecord : Obligations.QuerySegmentReportsTheRecord := by
  intro p part segment s
  dsimp only
  intro hadm hpart hseg
  have he := exec_querySegment hadm hpart hseg
  by_cases h0 : part = 0
  · subst h0
    refine ⟨_, _, he, fun _ hcount hdepth => ?_, fun h => absurd h (by decide)⟩
    obtain ⟨g0, g1, g2, g3, g4, g5, g6, g7⟩ := segmentStatusWord_fields (s.desc (segNo segment))
    obtain ⟨a0, a1, a2, a3, a4, a5⟩ := segmentAttributesWord_fields (s.desc (segNo segment))
    have hport := ((s.desc (segNo segment)).retiringPort.getD 0).isLt
    refine ⟨g0, g1, g2, ?_, g4, g5, g6, ?_, a0, a1, ?_, a3, a4, a5⟩
    · rw [g3, BitVec.toNat_ofNat]; omega
    · rw [g7, BitVec.toNat_ofNat]; omega
    · rw [a2, BitVec.toNat_ofNat]; omega
  · have h1 : segmentRecord (s.desc (segNo segment)) part =
        [(s.desc (segNo segment)).base, segmentLengthWord (s.desc (segNo segment))] := if_neg h0
    rw [h1] at he
    refine ⟨_, _, he, fun h => absurd h h0, fun _ hlength => ?_⟩
    obtain ⟨l0, l1, l2⟩ := segmentLengthWord_fields (s.desc (segNo segment))
    refine ⟨rfl, l0, ?_, l2⟩
    rw [l1, BitVec.toNat_ofNat]; omega

end Sys2Proof.Machine
end

section
/-! ## What the requests on a cursor answer

One equation for each branch of OPEN, SEEK, PUSH and POP, and for each answer of the checks of an access. -/

namespace Sys2Proof.Machine

/-- TARGET names a cursor of the issuing port (R157). -/
@[simp] theorem cursorOf_port (p : Port) (t : BitVec 4) : (cursorOf p t).port = p := rfl

/-- The mapping states (R34). -/
theorem CursorState.isMapping_iff (st : CursorState) :
    st.isMapping = true ↔ (∃ e, st = .binding e) ∨ st = .crossing ∨ st = .revalidating := by
  cases st <;> simp [CursorState.isMapping]

section
variable {id : CursorId} {s : State}

/-! ### OPEN (R37, R38) -/

section
variable {S : Seg} {offset : Word} {stride : BitVec 16} {expected : Option (BitVec 8)}

theorem openBody_taken (h : (s.cursor id).state = .closed ∨ ∃ r, (s.cursor id).state = .faulted r) :
    openBody id S offset stride expected s =
      ((s.setCursor id
        { state := .binding expected, segment := some S, generation := 0, offset := offset, stride := stride,
          writeRight := false }).joinQueue id, .plain .binding) := by
  rcases h with h | ⟨r, h⟩ <;> simp [openBody, h]

theorem openBody_inUse (h : (s.cursor id).state.isMapping = true ∨ (s.cursor id).state = .bound ∨
    ∃ e, (s.cursor id).state = .exhausted e) :
    openBody id S offset stride expected s = (s, .refused .cursorInUse) := by
  rw [CursorState.isMapping_iff] at h
  rcases h with (⟨e, h⟩ | h | h) | h | ⟨e, h⟩ <;> simp [openBody, h]

end

/-! ### SEEK (R50, R51) -/

section
variable {offset : Word} {stride : Option (BitVec 16)}

theorem seekBody_mapping (h : (s.cursor id).state.isMapping = true) :
    seekBody id offset stride s = (s, .refused .cursorBusy) := by
  rw [CursorState.isMapping_iff] at h
  rcases h with ⟨e, h⟩ | h | h <;> simp [seekBody, h]

theorem seekBody_closed (h : (s.cursor id).state = .closed) :
    seekBody id offset stride s = (s, .refused .cursorNotBound) := by
  simp [seekBody, h]

theorem seekBody_faulted {r : FaultReason} (h : (s.cursor id).state = .faulted r) :
    seekBody id offset stride s = (s, .refused (.cursorFaulted r)) := by
  simp [seekBody, h]

variable (h : (s.cursor id).state = .bound ∨ ∃ e, (s.cursor id).state = .exhausted e)
include h

theorem seekBody_noSegment (hseg : (s.cursor id).segment = none) :
    seekBody id offset stride s = (s, .refused .cursorNotBound) := by
  rcases h with h | ⟨e, h⟩ <;> simp [seekBody, h, hseg]

variable {S : Seg} (hseg : (s.cursor id).segment = some S)
include hseg

theorem seekBody_outOfRange (hout : (s.desc S).length ≤ offset.toNat) :
    seekBody id offset stride s = (s, .refused .outOfRange) := by
  rcases h with h | ⟨e, h⟩ <;> simp [seekBody, h, hseg, Nat.not_lt.2 hout]

theorem seekBody_taken (hin : offset.toNat < (s.desc S).length) :
    seekBody id offset stride s = seekTaken id offset stride (s.desc S).length s := by
  rcases h with h | ⟨e, h⟩ <;> simp [seekBody, h, hseg, hin]

end

/-! ### PUSH and POP (R82, R84) -/

theorem pushBody_notBound (h : (s.cursor id).state = .closed ∨ (∃ e, (s.cursor id).state = .binding e) ∨
    (s.cursor id).state = .crossing ∨ ∃ r, (s.cursor id).state = .faulted r) :
    pushBody id s = (s, .refused .cursorNotBound) := by
  rcases h with h | ⟨e, h⟩ | h | ⟨r, h⟩ <;> simp [pushBody, h]

theorem pushHeld_full {S : Seg} {side : Option Side} {mark : Mark} (hfull : 8 ≤ (s.stack id.port).length) :
    pushHeld id S side mark s = (s, .refused .stackFull) := by
  simp [pushHeld, Config.stackDepth, hfull]

theorem pushBody_full {S : Seg} (h : (s.cursor id).state = .bound ∨ (∃ e, (s.cursor id).state = .exhausted e) ∨
    (s.cursor id).state = .revalidating) (hseg : (s.cursor id).segment = some S)
    (hfull : 8 ≤ (s.stack id.port).length) : pushBody id s = (s, .refused .stackFull) := by
  rcases h with h | ⟨e, h⟩ | h <;> simp [pushBody, h, hseg, pushHeld_full hfull]

theorem popBody_mapping {k : Nat} (h : (s.cursor id).state.isMapping = true) :
    popBody id k s = (s, .refused .cursorBusy) := by
  simp [popBody, h]

theorem popBody_empty {k : Nat} (h : (s.cursor id).state.isMapping = false) (hst : s.stack id.port = []) :
    popBody id k s = (s, .refused .stackEmpty) := by
  simp [popBody, h, hst]

/-! ### READ and WRITE (R40, R41, R122) -/

section
variable {z : AccessSize}

theorem accessCheck_mapping (h : (s.cursor id).state.isMapping = true) :
    accessCheck s id z = .error (.wait .mapping) := by
  rw [CursorState.isMapping_iff] at h
  rcases h with ⟨e, h⟩ | h | h <;> simp [accessCheck, h]

theorem accessCheck_closed (h : (s.cursor id).state = .closed) :
    accessCheck s id z = .error (.refused .cursorNotBound) := by
  simp [accessCheck, h]

theorem accessCheck_faulted {r : FaultReason} (h : (s.cursor id).state = .faulted r) :
    accessCheck s id z = .error (.refused (.cursorFaulted r)) := by
  simp [accessCheck, h]

theorem accessCheck_exhausted {e : Side} (h : (s.cursor id).state = .exhausted e) :
    accessCheck s id z = .error (.refused (.endOfSegment e)) := by
  simp [accessCheck, h]

theorem accessCheck_boundary {S : Seg} (h : (s.cursor id).state = .bound) (hseg : (s.cursor id).segment = some S)
    (hout : (s.desc S).length < (s.cursor id).offset.toInt + z.bytes) :
    accessCheck s id z = .error (.refused .boundary) := by
  simp [accessCheck, h, hseg, hout]

theorem accessCheck_misaligned {S : Seg} (h : (s.cursor id).state = .bound)
    (hseg : (s.cursor id).segment = some S) (hin : (s.cursor id).offset.toInt + z.bytes ≤ (s.desc S).length)
    (hmis : (s.cursor id).offset.toNat % z.bytes ≠ 0) :
    accessCheck s id z = .error (.refused .misaligned) := by
  simp [accessCheck, h, hseg, Int.not_lt.2 hin, hmis]

theorem readBody_of_error {r : Response} (h : accessCheck s id z = .error r) : readBody id z s = (s, r) := by
  simp [readBody, h]

variable {data : List Word}

theorem writeBody_of_error {r : Response} (h : accessCheck s id z = .error r) :
    writeBody id z data s = (s, r) := by
  simp [writeBody, h]

variable {S : Seg} (h : s.AccessPasses id S z)
include h

theorem writeBody_noRight (hw : (s.cursor id).writeRight = false) :
    writeBody id z data s = (s, .refused .noWriteRight) := by
  simp [writeBody, accessCheck_of_passes h, hw]

theorem writeBody_busy (hw : (s.cursor id).writeRight = true) (hslot : s.slot id ≠ .empty) :
    writeBody id z data s = (s, .refused .cursorBusy) := by
  simp [writeBody, accessCheck_of_passes h, hw, hslot]

theorem writeBody_queueFull (hw : (s.cursor id).writeRight = true) (hslot : s.slot id = .empty)
    (hfull : 16 ≤ s.postQueue.length) : writeBody id z data s = (s, .wait .queueFull) := by
  simp [writeBody, accessCheck_of_passes h, hw, hslot, Config.postQueueDepth, hfull]

end
end

/-! ### The parts they change -/

theorem State.onlyChanges_setCursor (s : State) (id : CursorId) (c : Cursor) :
    s.OnlyChanges (s.setCursor id c) [.cursors] := by
  intro q hq
  cases q <;> simp_all [State.agree]

theorem State.onlyChanges_joinQueue (s : State) (id : CursorId) : s.OnlyChanges (s.joinQueue id) [.mapQueues] := by
  intro q hq
  cases q <;> simp_all [State.agree]

theorem State.onlyChanges_leaveQueue (s : State) (id : CursorId) : s.OnlyChanges (s.leaveQueue id) [.mapQueues] := by
  intro q hq
  cases q <;> simp_all [State.agree]

theorem State.onlyChanges_cancelRead (s : State) (id : CursorId) (k : Bool) :
    s.OnlyChanges (s.cancelRead id k) [.slots, .buffers, .fillList] := by
  intro q hq
  cases q <;> simp_all [State.agree]

theorem State.onlyChanges_seekTaken (s : State) (id : CursorId) (offset : Word) (stride : Option (BitVec 16))
    (n : Nat) : s.OnlyChanges (seekTaken id offset stride n s).1 [.cursors, .slots, .buffers, .fillList] :=
  ((s.onlyChanges_cancelRead id true).trans (State.onlyChanges_setCursor _ id _)).mono (by decide)

/-- A SEEK taken is answered with the state and the EDGE of the cursor as it leaves it (R51). -/
theorem seekTaken_response (s : State) (id : CursorId) (offset : Word) (stride : Option (BitVec 16)) (n : Nat) :
    (seekTaken id offset stride n s).2 =
      .done .bound (edgeFlag n ((seekTaken id offset stride n s).1.cursor id)) 0 [] := by
  simp [seekTaken, accessDone, CursorState.code]

end Sys2Proof.Machine
end

section
/-! ## OPEN, SEEK and CLOSE, and what a cursor's state refuses (O20 to O23, O25) -/

namespace Sys2Proof.Machine

/-- Settles O20: the record written and the map queue joined. -/
theorem openQueuesTheCursor : Obligations.OpenQueuesTheCursor := by
  intro p target stride segment offset g s
  dsimp only
  intro hadm hrange hfree
  have he := exec_open hadm hrange
  rw [openBody_taken hfree] at he
  refine ⟨_, he, .of_body ((s.onlyChanges_setCursor _ _).trans (State.onlyChanges_joinQueue _ _)) rfl, ?_,
    fun x hx => ?_, ?_, fun q hq => ?_⟩
  · simp
  · simp [hx]
  · simp
  · simp [hq]

/-- Settles O21: one refusing branch of the body for each clause. -/
theorem cursorStatesRefuse : Obligations.CursorStatesRefuse := by
  intro p target s
  dsimp only
  rw [← CursorState.isMapping_iff]
  intro hadm htarget
  refine ⟨fun stride segment offset g hf h => ?_, fun offset stride hf => ⟨fun h => ?_, fun h => ?_, fun r h => ?_,
    fun S h hseg hout => ?_⟩, fun h => ?_, fun S h hseg hfull => ?_, fun k hk => ⟨fun h => ?_, fun h hst => ?_⟩⟩
  · rw [exec_open hadm hf, openBody_inUse h]
  · rw [exec_seek hadm hf, seekBody_mapping h]
  · rw [exec_seek hadm hf, seekBody_closed h]
  · rw [exec_seek hadm hf, seekBody_faulted h]
  · rw [exec_seek hadm hf, seekBody_outOfRange h hseg hout]
  · rw [exec_push hadm htarget, pushBody_notBound h]
  · rw [exec_push hadm htarget, pushBody_full h hseg hfull]
  · rw [exec_pop hadm htarget hk, popBody_mapping h]
  · rw [exec_pop hadm htarget hk, popBody_empty (Bool.eq_false_iff.2 h) hst]

/-- Settles O22: the cancellation that keeps a VALID buffer, then the record written. -/
theorem seekMovesTheCursor : Obligations.SeekMovesTheCursor := by
  intro p target offset stride S s
  dsimp only
  intro hadm hrange hst hseg hin
  have he := exec_seek hadm hrange
  rw [seekBody_taken hst hseg hin] at he
  refine ⟨_, he, ?_, fun x hx => ?_, ?_, ?_⟩
  · simp [seekTaken]
  · simp [seekTaken, hx]
  · exact (s.cancelled_cancelRead _ true).congr rfl rfl rfl rfl rfl rfl
  · rw [seekTaken_response, State.cursor_answer]
    exact .of_body (s.onlyChanges_seekTaken _ _ _ _) rfl

/-- Settles O23: of a CLOSED cursor nothing is left to do; of any other the four steps of R52. -/
theorem closeLetsGo : Obligations.CloseLetsGo := by
  intro p target s
  dsimp only
  intro hadm htarget
  have he := exec_close hadm htarget
  refine ⟨fun hc => ?_, fun hc => ?_⟩
  · rw [he, State.closeCursor_of_closed s _ hc]; rfl
  · rw [State.closeCursor_of_open s _ hc] at he
    refine ⟨_, he, .of_body ((((s.onlyChanges_releaseOf _).trans (State.onlyChanges_leaveQueue _ _)).trans
      (State.onlyChanges_cancelRead _ _ _)).trans (State.onlyChanges_setCursor _ _ _)) (by simp), ?_, fun x hx => ?_, ?_,
      ?_, fun q hq => ?_, fun S hst hseg => ?_, fun hst => ?_⟩
    · simp
    · simp [hx]
    · exact (State.cancelled_cancelRead _ _ false).congr (by simp) (by simp) (by simp) rfl rfl rfl
    · rw [State.mapQueue_answer, State.mapQueue_setCursor, State.mapQueue_cancelRead, State.mapQueue_leaveQueue,
        cursorOf_port, if_pos rfl, State.mapQueue_releaseOf]
    · simp [hq]
    · have hheld : (s.cursor (cursorOf p target)).state.holdsBinding = true := by
        rcases hst with h | ⟨e, h⟩ | h <;> rw [h] <;> rfl
      rw [State.releaseOf_of_holds s _ S hheld hseg]
      exact (s.released_release S).congr rfl rfl (by simp) (by simp)
    · have hfree : (s.cursor (cursorOf p target)).state.holdsBinding = false := by
        rcases hst with ⟨e, h⟩ | h | ⟨r, h⟩ <;> rw [h] <;> rfl
      rw [State.releaseOf_of_not_holds s _ hfree]
      exact ⟨rfl, rfl⟩

/-- Settles O25: READ and WRITE share the answers of the check, and a WRITE that passes it has three of its own. -/
theorem accessesAreJudgedInOrder : Obligations.AccessesAreJudgedInOrder := by
  intro p target size data s
  dsimp only
  rw [← CursorState.isMapping_iff]
  intro hadm htarget hsize hwf
  have hr := exec_read hadm htarget hsize
  have hw := exec_write hadm htarget hsize hwf
  refine ⟨fun i hi => ?_, fun S hpass => ⟨fun hright => ?_, fun hright hslot => ?_, fun hright hslot hfull => ?_⟩⟩
  · have herr : ∀ r, accessCheck s (cursorOf p target) (accessSize size) = .error r →
        exec i s = .next (s.answer p r) := by
      intro r he
      simp only [List.mem_cons, List.not_mem_nil, or_false] at hi
      rcases hi with rfl | rfl
      · rw [hr, readBody_of_error he]
      · rw [hw, writeBody_of_error he]
    exact ⟨fun h => herr _ (accessCheck_mapping h), fun h => herr _ (accessCheck_closed h),
      fun r h => herr _ (accessCheck_faulted h), fun e h => herr _ (accessCheck_exhausted h),
      fun S h hseg => ⟨fun hout => herr _ (accessCheck_boundary h hseg hout),
        fun hin hmis => herr _ (accessCheck_misaligned h hseg hin hmis)⟩⟩
  · rw [hw, writeBody_noRight hpass hright]
  · rw [hw, writeBody_busy hpass hright hslot]
  · rw [hw, writeBody_queueFull hpass hright hslot hfull]

end Sys2Proof.Machine
end

section
/-! ## QUERY_CURSOR and the EDGE flag (O24, O26) -/

namespace Sys2Proof.Machine

/-! ### QUERY_CURSOR: the fields of the report's words (section 10.3) -/

/-- POSITION word 0 (R54). -/
theorem cursorPositionWord_fields (c : Cursor) :
    (cursorPositionWord c).extractLsb' 0 8 = segField c.segment ∧
      (cursorPositionWord c).extractLsb' 8 8 = c.generation ∧ (cursorPositionWord c).extractLsb' 16 16 = c.stride := by
  unfold cursorPositionWord
  refine ⟨?_, ?_, ?_⟩ <;>
    simp (disch := omega) only [BitVec.extractLsb'_append_eq_of_add_le, BitVec.extractLsb'_append_eq_of_le,
      BitVec.extractLsb'_eq_self, Nat.sub_self]

/-- CONDITION word 0 (R54): the cursor's part, its low half. -/
theorem cursorConditionWord_cursor (c : Cursor) (slot : Slot) (buf : Buffer) :
    (cursorConditionWord c slot buf).getLsbD 0 = c.writeRight ∧
      (cursorConditionWord c slot buf).extractLsb' 1 2 = c.state.sideField ∧
      (cursorConditionWord c slot buf).getLsbD 3 = false ∧
      (cursorConditionWord c slot buf).extractLsb' 4 3 = c.state.faultField ∧
      (cursorConditionWord c slot buf).getLsbD 7 = c.state.expected.isSome ∧
      (cursorConditionWord c slot buf).extractLsb' 8 8 = c.state.expected.getD 0 := by
  unfold cursorConditionWord
  refine ⟨?_, ?_, ?_, ?_, ?_, ?_⟩
  case refine_1 | refine_3 | refine_5 => simp only [BitVec.getLsbD_append]; simp
  all_goals
    simp (disch := omega) only [BitVec.extractLsb'_append_eq_of_add_le, BitVec.extractLsb'_append_eq_of_le,
      BitVec.extractLsb'_eq_self, Nat.sub_self]

/-- CONDITION word 0 (R54): the slot's and the buffer's parts, its high half. -/
theorem cursorConditionWord_slot_buffer (c : Cursor) (slot : Slot) (buf : Buffer) :
    (cursorConditionWord c slot buf).extractLsb' 16 2 = slot.stateField ∧
      (cursorConditionWord c slot buf).extractLsb' 18 2 = slot.sizeField ∧
      (cursorConditionWord c slot buf).extractLsb' 20 2 = buf.stateField ∧
      (cursorConditionWord c slot buf).getLsbD 22 = buf.voidField ∧
      (cursorConditionWord c slot buf).getLsbD 23 = buf.posField ∧
      (cursorConditionWord c slot buf).extractLsb' 24 3 = buf.countField ∧
      (cursorConditionWord c slot buf).extractLsb' 27 5 = 0 := by
  unfold cursorConditionWord
  refine ⟨?_, ?_, ?_, ?_, ?_, ?_, ?_⟩
  case refine_4 | refine_5 => simp only [BitVec.getLsbD_append]; simp
  all_goals
    simp (disch := omega) only [BitVec.extractLsb'_append_eq_of_add_le, BitVec.extractLsb'_append_eq_of_le,
      BitVec.extractLsb'_eq_self, Nat.sub_self]

/-- Settles O24: the report of each part, its words field by field. -/
theorem queryCursorReportsTheCursor : Obligations.QueryCursorReportsTheCursor := by
  intro p target part s
  dsimp only
  intro hadm htarget hpart
  have he := exec_queryCursor hadm htarget hpart
  by_cases h0 : part = 0
  · subst h0
    obtain ⟨hsegment, hgeneration, hstride⟩ := cursorPositionWord_fields (s.cursor (cursorOf p target))
    exact ⟨_, _, he, fun _ => ⟨hsegment, hgeneration, hstride, rfl⟩, fun h => absurd h (by decide)⟩
  · rw [show cursorReport s (cursorOf p target) part = _ from if_neg h0] at he
    refine ⟨_, _, he, fun h => absurd h h0, fun _ => ?_⟩
    obtain ⟨hright, hside, hzero, hfault, hgiven, hexpected⟩ := cursorConditionWord_cursor
      (s.cursor (cursorOf p target)) (s.slot (cursorOf p target)) (s.buffer (cursorOf p target))
    obtain ⟨hslot, hsize, hbuffer, hvoid, hpos, hcount, hrest⟩ := cursorConditionWord_slot_buffer
      (s.cursor (cursorOf p target)) (s.slot (cursorOf p target)) (s.buffer (cursorOf p target))
    exact ⟨hright, hside, hzero, hfault, hgiven, hexpected, hslot, hsize, hbuffer, hvoid, hpos, hcount, hrest, rfl⟩

/-! ### EDGE in a response (R48, section 10.2) -/

/-- R48. -/
theorem edgeFlag_eq_true (length : Nat) (c : Cursor) :
    edgeFlag length c = true ↔
      c.state = .bound ∧
        ((0 < c.stride.toInt ∧ (length : Int) - c.offset.toInt ≤ 16) ∨
          (c.stride.toInt < 0 ∧ c.offset.toInt < 16)) := by
  simp only [edgeFlag, Bool.and_eq_true, Bool.or_eq_true, decide_eq_true_eq]

/-- The EDGE flag of a response: a DONE's, and clear in any other. -/
def Response.edge : Response → Bool
  | .done _ edge _ _ => edge
  | .wait _ => false
  | .refused _ => false

theorem headerWord_edge (kind : BitVec 2) (edge : Bool) (code : BitVec 8) (qual : BitVec 4) (aux : BitVec 8) :
    (headerWord kind edge code qual aux).getLsbD 2 = edge := by
  unfold headerWord
  simp only [BitVec.getLsbD_append]
  simp

/-- Bit 2 of the header is the EDGE flag. -/
theorem Response.header_edge (r : Response) : r.header.getLsbD 2 = r.edge := by
  cases r <;> exact headerWord_edge ..

/-! ### The requests that leave EDGE clear -/

section
variable (s : State)

theorem openBody_edge (id : CursorId) (S : Seg) (offset : Word) (stride : BitVec 16) (g : Option (BitVec 8)) :
    (openBody id S offset stride g s).2.edge = false := by
  unfold openBody
  dsimp only
  split <;> rfl

theorem pushHeld_edge (id : CursorId) (S : Seg) (side : Option Side) (mark : Mark) :
    (pushHeld id S side mark s).2.edge = false := by
  unfold pushHeld
  dsimp only
  split <;> rfl

theorem pushBody_edge (id : CursorId) : (pushBody id s).2.edge = false := by
  unfold pushBody
  split
  case h_4 => rfl
  all_goals exact pushHeld_edge s id _ _ _

theorem popBody_edge (id : CursorId) (k : Nat) : (popBody id k s).2.edge = false := by
  unfold popBody
  split
  · rfl
  · split <;> rfl

theorem dropBody_edge (p : Port) : (dropBody p s).2.edge = false := by
  unfold dropBody
  split <;> rfl

theorem commitBody_edge (p : Port) (S : Seg) : (commitBody p S s).2.edge = false := by
  unfold commitBody
  dsimp only
  repeat' split
  all_goals rfl

theorem retireBody_edge (p : Port) (forced : Bool) (S : Seg) : (retireBody p forced S s).2.edge = false := by
  unfold retireBody
  dsimp only
  repeat' split
  all_goals rfl

theorem fetchBody_edge (p : Port) : (fetchBody p s).2.edge = false := by
  unfold fetchBody
  dsimp only
  split <;> rfl

theorem setPortBody_edge (q : Port) (a : Option Authority) (pr : Option Priority) (n : Option Nat)
    (i : Option Interval) : (setPortBody q a pr n i s).2.edge = false := by
  unfold setPortBody
  dsimp only
  split <;> rfl

theorem releasePortBody_edge (q : Port) : (releasePortBody q s).2.edge = false := by
  unfold releasePortBody
  split <;> rfl

end

/-! ### The requests that judge EDGE -/

/-- A DONE from s to t has the EDGE of the cursor as t leaves it, by the length in s of the segment it was on in s. -/
def State.EdgeJudged (s t : State) (id : CursorId) (r : Response) : Prop :=
  ∀ st edge aux data, r = .done st edge aux data →
    ∃ S, (s.cursor id).segment = some S ∧ edge = edgeFlag (s.desc S).length (t.cursor id)

section
variable {s t : State} {id : CursorId} {S : Seg}

theorem State.EdgeJudged.refused (r : Reason) : s.EdgeJudged t id (.refused r) := nofun

theorem State.EdgeJudged.wait (w : WaitCode) : s.EdgeJudged t id (.wait w) := nofun

theorem State.EdgeJudged.done (hseg : (s.cursor id).segment = some S) (st : StateCode) (aux : BitVec 8)
    (data : List Word) : s.EdgeJudged t id (.done st (edgeFlag (s.desc S).length (t.cursor id)) aux data) := by
  intro st' edge aux' data' h
  cases h
  exact ⟨S, hseg, rfl⟩

/-- SEEK of a BOUND or EXHAUSTED cursor: taken, or past the end. -/
theorem seekBody_edgeJudged_of_held {offset : Word} {stride : Option (BitVec 16)}
    (h : (s.cursor id).state = .bound ∨ ∃ e, (s.cursor id).state = .exhausted e) :
    s.EdgeJudged (seekBody id offset stride s).1 id (seekBody id offset stride s).2 := by
  cases hseg : (s.cursor id).segment with
  | none => rw [seekBody_noSegment h hseg]; exact .refused _
  | some S =>
    by_cases hin : offset.toNat < (s.desc S).length
    · rw [seekBody_taken h hseg hin, seekTaken_response]; exact .done hseg _ _ _
    · rw [seekBody_outOfRange h hseg (Nat.not_lt.1 hin)]; exact .refused _

theorem seekBody_edgeJudged (offset : Word) (stride : Option (BitVec 16)) :
    s.EdgeJudged (seekBody id offset stride s).1 id (seekBody id offset stride s).2 := by
  cases h : (s.cursor id).state with
  | bound => exact seekBody_edgeJudged_of_held (.inl h)
  | exhausted e => exact seekBody_edgeJudged_of_held (.inr ⟨e, h⟩)
  | closed => rw [seekBody_closed h]; exact .refused _
  | faulted r => rw [seekBody_faulted h]; exact .refused _
  | binding | crossing | revalidating => rw [seekBody_mapping (by rw [h]; rfl)]; exact .refused _

theorem readAhead_edgeJudged (hseg : (s.cursor id).segment = some S) (z : AccessSize) :
    s.EdgeJudged (readAhead id S z s).1 id (readAhead id S z s).2 := by
  unfold readAhead
  split
  · split
    · exact .wait _
    · dsimp only
      split
      · exact .done hseg _ _ _
      · exact .wait _
    · exact .wait _
  · split
    · exact .wait _
    · exact .refused _
  · split
    · unfold readCollect
      split
      · exact .done hseg _ _ _
      · exact .refused _
      · exact .refused _
    · exact .refused _

/-- What the checks of an access answer themselves is no DONE (R40, R41). -/
theorem accessCheck_error_edgeJudged {z : AccessSize} {r : Response} (h : accessCheck s id z = .error r) :
    s.EdgeJudged t id r := by
  rintro st edge aux data rfl
  unfold accessCheck at h
  dsimp only at h
  repeat' split at h
  all_goals cases h

theorem readBody_edgeJudged (z : AccessSize) : s.EdgeJudged (readBody id z s).1 id (readBody id z s).2 := by
  unfold readBody
  split
  · next h => exact accessCheck_error_edgeJudged h
  · next h =>
    obtain ⟨_, hseg, _⟩ := passes_of_accessCheck h
    exact readAhead_edgeJudged hseg z

theorem writeBody_edgeJudged (z : AccessSize) (data : List Word) :
    s.EdgeJudged (writeBody id z data s).1 id (writeBody id z data s).2 := by
  unfold writeBody
  split
  · next h => exact accessCheck_error_edgeJudged h
  · next S h =>
    obtain ⟨_, hseg, _⟩ := passes_of_accessCheck h
    split
    · exact .refused _
    · split
      · exact .refused _
      · split
        · exact .wait _
        · exact .done hseg _ _ _

end

/-! ### What is owed after a request -/

section
variable {i : Instr} {p : Port} {s : State}

/-- A request taken leaves its refusal owed or the response of its body, and what the body's DONE says of the state
after it holds of the DONE owed. -/
theorem serve_owed {f : Option ArgField} {tb qt : Bool} {body : State → State × Response} {P : State → Bool → Prop}
    (hready : s.requestReady p = true)
    (hbody : ∀ st edge aux data, (body s).2 = .done st edge aux data → P ((body s).1.answer p (body s).2) edge) :
    ∃ t, serve i p f tb qt body s = .next t ∧
      ∀ st edge aux data, (t.link p).owed = some (.done st edge aux data) → P t edge := by
  rcases serve_cases i p f tb qt body s with ⟨hbusy, _⟩ | ⟨r, _, _, he⟩ | ⟨_, _, he⟩
  · rw [hready] at hbusy; cases hbusy
  · exact ⟨_, he, fun st edge aux data ho => by simp at ho⟩
  · exact ⟨_, he, fun st edge aux data ho => hbody st edge aux data (by simpa using ho)⟩

theorem serve_edge_clear {f : Option ArgField} {tb qt : Bool} {body : State → State × Response}
    (hready : s.requestReady p = true) (hbody : (body s).2.edge = false) :
    ∃ t, serve i p f tb qt body s = .next t ∧
      ∀ st edge aux data, (t.link p).owed = some (.done st edge aux data) → edge = false :=
  serve_owed hready fun st edge aux data h => by rw [h] at hbody; exact hbody

theorem serve_edge_judged {f : Option ArgField} {tb qt : Bool} {body : State → State × Response} {id : CursorId}
    (hready : s.requestReady p = true) (hbody : s.EdgeJudged (body s).1 id (body s).2) :
    ∃ t, serve i p f tb qt body s = .next t ∧
      ∀ st edge aux data, (t.link p).owed = some (.done st edge aux data) →
        ∃ S, (s.cursor id).segment = some S ∧ edge = edgeFlag (s.desc S).length (t.cursor id) :=
  serve_owed hready fun st edge aux data h => by rw [State.cursor_answer]; exact hbody st edge aux data h

/-- A request refused at check 1 leaves no DONE owed. -/
theorem refuseForm_not_done (hready : s.requestReady p = true) :
    ∃ t, refuseForm i p s = .next t ∧ ∀ st edge aux data, (t.link p).owed ≠ some (.done st edge aux data) :=
  ⟨_, if_pos hready, fun st edge aux data => by simp⟩

/-- Every request but READ, WRITE and SEEK is answered with EDGE clear. -/
theorem exec_edge_clear (hp : i.requestPort = some p) (hready : s.requestReady p = true)
    (hread : ∀ t z, i ≠ .read p t z) (hwrite : ∀ t z d, i ≠ .write p t z d) (hseek : ∀ t o x, i ≠ .seek p t o x) :
    ∃ t, exec i s = .next t ∧
      ∀ st edge aux data, (t.link p).owed = some (.done st edge aux data) → edge = false := by
  cases i <;> cases hp <;> dsimp only [exec]
  case read t z => exact absurd rfl (hread t z)
  case write t z d => exact absurd rfl (hwrite t z d)
  case seek t o x => exact absurd rfl (hseek t o x)
  case openCursor => exact serve_edge_clear hready (openBody_edge ..)
  case push => exact serve_edge_clear hready (pushBody_edge ..)
  case pop => exact serve_edge_clear hready (popBody_edge ..)
  case drop => exact serve_edge_clear hready (dropBody_edge ..)
  case commit => exact serve_edge_clear hready (commitBody_edge ..)
  case retire => exact serve_edge_clear hready (retireBody_edge ..)
  case fetchNotice => exact serve_edge_clear hready (fetchBody_edge ..)
  case setPort => exact serve_edge_clear hready (setPortBody_edge ..)
  case releasePort => exact serve_edge_clear hready (releasePortBody_edge ..)
  case closeCursor | queryCursor | stage | querySegment | resetPort => exact serve_edge_clear hready (by rfl)
  case badRequest =>
    obtain ⟨t, he, hno⟩ := refuseForm_not_done hready
    exact ⟨t, he, fun st edge aux data ho => absurd ho (hno st edge aux data)⟩

/-- READ, WRITE and SEEK are answered with EDGE by the length of the cursor's own segment. -/
theorem exec_edge_judged {target : BitVec 4} (hready : s.requestReady p = true)
    (hi : (∃ z, i = .read p target z) ∨ (∃ z d, i = .write p target z d) ∨ ∃ o x, i = .seek p target o x) :
    ∃ t, exec i s = .next t ∧
      ∀ st edge aux data, (t.link p).owed = some (.done st edge aux data) →
        ∃ S, (s.cursor (cursorOf p target)).segment = some S ∧
          edge = edgeFlag (s.desc S).length (t.cursor (cursorOf p target)) := by
  rcases hi with ⟨z, rfl⟩ | ⟨z, d, rfl⟩ | ⟨o, x, rfl⟩ <;> dsimp only [exec]
  · exact serve_edge_judged hready (readBody_edgeJudged _)
  · unfold execWrite
    split
    · exact serve_edge_judged hready (writeBody_edgeJudged _ d)
    · obtain ⟨t, he, hno⟩ := refuseForm_not_done hready
      exact ⟨t, he, fun st edge aux data ho => absurd ho (hno st edge aux data)⟩
  · exact serve_edge_judged hready (seekBody_edgeJudged o x)

end

/-- Settles O26: EDGE in the body of each request, in what a request leaves owed, and in the header. -/
theorem edgeMarksTheLastSixteenBytes : Obligations.EdgeMarksTheLastSixteenBytes := by
  refine ⟨edgeFlag_eq_true, fun i p s => exec_edge_clear, fun i p target s => exec_edge_judged, fun r hr => ?_⟩
  rw [Response.header_edge]
  cases r with
  | done st edge aux data => exact absurd rfl (hr st edge aux data)
  | wait w => rfl
  | refused q => rfl

end Sys2Proof.Machine
end

section
/-! ## The Placement Engine (O33 to O35) -/

namespace Sys2Proof.Machine

/-! ### The port a service is taken for (R63, R64) -/

theorem State.eligible_iff (s : State) (p : Port) :
    s.eligible p = true ↔ (s.port p).status = .active ∧ s.mapQueue p ≠ [] := by
  simp [State.eligible]

theorem mem_rotation (mark p : Port) : p ∈ rotation mark := by
  revert mark p; decide

/-- The rotation after a mark goes by increasing cyclic distance from it, the mark last (R64). -/
theorem rotation_pairwise (mark : Port) :
    (rotation mark).Pairwise (fun p q => (p - mark - 1).val ≤ (q - mark - 1).val) := by
  revert mark; decide

theorem State.pickAt_eq_none (s : State) (l : Priority) (mark : Port) :
    s.pickAt l mark = none ↔ ∀ p, s.eligible p = true → (s.port p).priority ≠ l := by
  simp [State.pickAt, mem_rotation]

/-- The port picked at a level is an eligible one of it, and of these the first after the mark (R64). -/
theorem State.pickAt_eq_some {s : State} {l : Priority} {mark p : Port} (h : s.pickAt l mark = some p) :
    s.eligible p = true ∧ (s.port p).priority = l ∧
      ∀ q, s.eligible q = true → (s.port q).priority = l → (p - mark - 1).val ≤ (q - mark - 1).val := by
  obtain ⟨hp, before, after, hsplit, hbefore⟩ := List.find?_eq_some_iff_append.1 h
  rw [Bool.and_eq_true, decide_eq_true_eq] at hp
  refine ⟨hp.1, hp.2, fun q hq hl => ?_⟩
  have hsorted := rotation_pairwise mark
  have hmem := mem_rotation mark q
  rw [hsplit] at hsorted hmem
  rcases List.mem_append.1 hmem with hq' | hq'
  · simpa [hq, hl] using hbefore q hq'
  · obtain ⟨-, hsorted, -⟩ := List.pairwise_append.1 hsorted
    obtain ⟨hafter, -⟩ := List.pairwise_cons.1 hsorted
    rcases List.mem_cons.1 hq' with rfl | hq'
    · exact Nat.le_refl _
    · exact hafter q hq'

/-- HIGH is picked first; LOW when no eligible port is HIGH (R64). -/
theorem State.pickPort_eq_some {s : State} {p : Port} {l : Priority} (h : s.pickPort = some (p, l)) :
    l = .high ∧ s.pickAt .high s.markHigh = some p ∨
      l = .low ∧ s.pickAt .high s.markHigh = none ∧ s.pickAt .low s.markLow = some p := by
  unfold State.pickPort at h
  split at h
  · next q hq => cases h; exact .inl ⟨rfl, hq⟩
  · next hn =>
    obtain ⟨q, hq, e⟩ := Option.map_eq_some_iff.1 h
    cases e
    exact .inr ⟨rfl, hn, hq⟩

theorem State.pickPort_eq_none (s : State) : s.pickPort = none ↔ ∀ p, ¬ s.eligible p = true := by
  have hlevels : s.pickPort = none ↔ s.pickAt .high s.markHigh = none ∧ s.pickAt .low s.markLow = none := by
    unfold State.pickPort
    cases s.pickAt .high s.markHigh <;> simp
  rw [hlevels, State.pickAt_eq_none, State.pickAt_eq_none]
  refine ⟨fun ⟨hhigh, hlow⟩ p he => ?_, fun h => ⟨fun p he => absurd he (h p), fun p he => absurd he (h p)⟩⟩
  cases hp : (s.port p).priority with
  | high => exact hhigh p he hp
  | low => exact hlow p he hp

/-- Settles O33: a pick at a level is the first of its rotation, and LOW is picked when no eligible port is HIGH. -/
theorem serviceChoosesByPriorityAndRotation : Obligations.ServiceChoosesByPriorityAndRotation := by
  intro s
  dsimp only
  simp only [← State.eligible_iff]
  refine ⟨s.pickPort_eq_none, fun p l h => ?_⟩
  rcases State.pickPort_eq_some h with ⟨rfl, hhigh⟩ | ⟨rfl, hnone, hlow⟩
  · obtain ⟨he, hp, hfirst⟩ := State.pickAt_eq_some hhigh
    exact ⟨he, hp, nofun, hfirst⟩
  · obtain ⟨he, hp, hfirst⟩ := State.pickAt_eq_some hlow
    refine ⟨he, hp, fun _ q hq => ?_, hfirst⟩
    have hnot := (s.pickAt_eq_none .high s.markHigh).1 hnone q hq
    cases hl : (s.port q).priority with
    | high => exact absurd hl hnot
    | low => rfl

/-! ### The walk (R67 to R70)

One equation for each end of a walk, as WalkEnds names them; walk_step is the one for a further hop. -/

section
variable {s : State} {p : Port} {S T : Seg} {x : Int} {n : Nat}

theorem walk_free (hs : (s.desc S).state = .free) : walk s p n S x = .failed S x .notLive := by
  unfold walk; rw [hs]

theorem walk_retiring (hs : (s.desc S).state = .retiring) : walk s p n S x = .failed S x .segmentRetiring := by
  unfold walk; rw [hs]

variable (hs : (s.desc S).state = .live)
include hs

theorem walk_noRight (hr : fget (s.desc S).rights p = .none) : walk s p n S x = .failed S x .noRight := by
  unfold walk; simp [hs, hr]

variable (hr : fget (s.desc S).rights p ≠ .none)
include hr

theorem walk_start (hx : x < 0) : walk s p n S x = .exhausted S x .atStart := by
  unfold walk; simp [hs, hr, hx]

variable (h0 : 0 ≤ x)
include h0

theorem walk_bound (hx : x < (s.desc S).length) : walk s p n S x = .bound S x := by
  unfold walk; simp [hs, hr, Int.not_lt.2 h0, hx]

variable (hx : (s.desc S).length ≤ x)
include hx

theorem walk_atEnd (hl : (s.desc S).link = none) : walk s p n S x = .exhausted S x .atEnd := by
  unfold walk; simp [hs, hr, Int.not_lt.2 h0, Int.not_lt.2 hx, hl]

theorem walk_tooLong (hl : (s.desc S).link = some T) :
    walk s p 0 S x = .failed T (x - (s.desc S).length) .chainTooLong := by
  unfold walk; simp [hs, hr, Int.not_lt.2 h0, Int.not_lt.2 hx, hl]

end

/-- Whatever end the rules give, the walk with the hops then left takes it. -/
theorem WalkEnds.walk_eq {s : State} {p : Port} {h n : Nat} {S : Seg} {x : Int} {w : Walk}
    (e : WalkEnds s p h S x w) (hn : n + h = 4) : walk s p n S x = w := by
  induction e generalizing n with
  | free hs => exact walk_free hs
  | retiring hs => exact walk_retiring hs
  | noRight hs hr => exact walk_noRight hs hr
  | start hs hr hx => exact walk_start hs hr hx
  | bound hs hr h0 hx => exact walk_bound hs hr h0 hx
  | atEnd hs hr h0 hx hl => exact walk_atEnd hs hr h0 hx hl
  | tooLong hs hr h0 hx hl hh =>
    obtain rfl : n = 0 := by omega
    exact walk_tooLong hs hr h0 hx hl
  | hop hs hr h0 hx hl hh _ ih =>
    obtain ⟨k, rfl⟩ : ∃ k, n = k + 1 := ⟨n - 1, by omega⟩
    rw [walk_step s p k _ _ hs hr (by omega) (by omega) _ hl]
    exact ih (by omega)

/-- A segment gives the walk its end, unless it is to follow the segment's link. -/
theorem exists_walkEnds_of_link {s : State} {p : Port} {h : Nat} {S : Seg} {x : Int}
    (hlink : ∀ T, (s.desc S).state = .live → fget (s.desc S).rights p ≠ .none → 0 ≤ x → (s.desc S).length ≤ x →
      (s.desc S).link = some T → ∃ w, WalkEnds s p h S x w) : ∃ w, WalkEnds s p h S x w := by
  cases hs : (s.desc S).state with
  | free => exact ⟨_, .free hs⟩
  | retiring => exact ⟨_, .retiring hs⟩
  | live =>
    by_cases hr : fget (s.desc S).rights p = .none
    · exact ⟨_, .noRight hs hr⟩
    rcases lt_or_ge x 0 with hx | h0
    · exact ⟨_, .start hs hr hx⟩
    rcases lt_or_ge x (s.desc S).length with hx | hx
    · exact ⟨_, .bound hs hr h0 hx⟩
    cases hl : (s.desc S).link with
    | none => exact ⟨_, .atEnd hs hr h0 hx hl⟩
    | some T => exact hlink T hs hr h0 hx hl

/-- The rules give every walk an end, by induction on the hops left. -/
theorem exists_walkEnds (s : State) (p : Port) {h n : Nat} (hn : n + h = 4) (S : Seg) (x : Int) :
    ∃ w, WalkEnds s p h S x w := by
  induction n generalizing h S x with
  | zero => exact exists_walkEnds_of_link (fun T hs hr h0 hx hl => ⟨_, .tooLong hs hr h0 hx hl (by omega)⟩)
  | succ n ih =>
    refine exists_walkEnds_of_link (fun T hs hr h0 hx hl => ?_)
    obtain ⟨w, hw⟩ := ih (h := h + 1) (by omega) T (x - (s.desc S).length)
    exact ⟨w, .hop hs hr h0 hx hl (by omega) hw⟩

theorem walk_eq_iff (s : State) (p : Port) {h n : Nat} (hn : n + h = 4) (S : Seg) (x : Int) (w : Walk) :
    walk s p n S x = w ↔ WalkEnds s p h S x w := by
  refine ⟨fun e => ?_, fun e => e.walk_eq hn⟩
  obtain ⟨w', hw⟩ := exists_walkEnds s p hn S x
  rwa [← e, hw.walk_eq hn]

/-- Settles O34: the walk takes the one end the rules give; an expected generation is judged before it starts. -/
theorem walkFollowsAtMostFourLinks : Obligations.WalkFollowsAtMostFourLinks := by
  intro s p h S x w hh
  have hstart := walk_eq_iff s p (n := Config.hopLimit) (h := 0) rfl S x w
  refine ⟨walk_eq_iff s p (by omega) S x w, hstart, ?_, fun g hg => ?_⟩
  · simpa [placementWalk] using hstart
  · simp [placementWalk, Ne.symm hg]

/-! ### The service (R63, R71, R72)

A mapping cursor is settled with the end of its walk: one equation for each mapping state. A REVALIDATING cursor
releases its binding first (R11, R67). -/

section
variable {s : State} {id : CursorId} {S : Seg} (hseg : (s.cursor id).segment = some S)
include hseg

theorem State.place_binding {e : Option (BitVec 8)} (hst : (s.cursor id).state = .binding e) :
    s.place id = s.settle id .opened (placementWalk s id.port S (s.cursor id).offset.toInt e) := by
  simp [State.place, hseg, hst]

theorem State.place_crossing (hst : (s.cursor id).state = .crossing) :
    s.place id = s.settle id .cross (placementWalk s id.port S (s.cursor id).offset.toInt none) := by
  simp [State.place, hseg, hst]

theorem State.place_revalidating (hst : (s.cursor id).state = .revalidating) :
    s.place id = (s.release S).settle id .revalidate
      (placementWalk (s.release S) id.port S (s.cursor id).offset.toInt none) := by
  simp [State.place, hseg, hst]

end

@[simp] theorem State.cursor_settle_ne (s : State) {id x : CursorId} (o : Origin) (w : Walk) (hx : x ≠ id) :
    (s.settle id o w).cursor x = s.cursor x := by
  unfold State.settle
  dsimp only
  split <;> simp [hx]

@[simp] theorem State.cursor_place_ne (s : State) {id x : CursorId} (hx : x ≠ id) :
    (s.place id).cursor x = s.cursor x := by
  unfold State.place
  dsimp only
  split <;> simp [hx]

theorem State.onlyChanges_place (s : State) (id : CursorId) :
    s.OnlyChanges (s.place id) [.cursors, .dt, .notices] := by
  intro q hq
  cases q <;> simp_all [State.agree]

theorem State.onlyChanges_setMapQueue (s : State) (p : Port) (q : List CursorNo) :
    s.OnlyChanges (s.setMapQueue p q) [.mapQueues] := by
  intro q hq
  cases q <;> simp_all [State.agree]

theorem State.onlyChanges_setMark (s : State) (l : Priority) (p : Port) :
    s.OnlyChanges (s.setMark l p) [.markHigh, .markLow] := by
  intro q hq
  cases q <;> simp_all [State.agree]

theorem State.setMark_high (s : State) (p : Port) :
    (s.setMark .high p).markHigh = p ∧ (s.setMark .high p).markLow = s.markLow := ⟨rfl, rfl⟩

theorem State.setMark_low (s : State) (p : Port) :
    (s.setMark .low p).markLow = p ∧ (s.setMark .low p).markHigh = s.markHigh := ⟨rfl, rfl⟩

theorem exec_placementService_none {s : State} (h : s.pickPort = none) : exec .placementService s = .next s := by
  simp [exec, execPlacementService, h]

/-- A service takes the head entry off the queue of the port picked, sets the mark and places the cursor (R63). -/
theorem exec_placementService_some {s : State} {p : Port} {l : Priority} {c : CursorNo} {rest : List CursorNo}
    (h : s.pickPort = some (p, l)) (hq : s.mapQueue p = c :: rest) :
    exec .placementService s = .next (((s.setMapQueue p rest).setMark l p).place ⟨p, c⟩) := by
  simp [exec, execPlacementService, h, State.serveEntry, hq]

/-- Settles O35: the walk and its end read and write the table, the cursor and the notices, which the queue and the
mark leave as they were. -/
theorem servicePlacesTheHeadCursor : Obligations.ServicePlacesTheHeadCursor := by
  refine fun s => ⟨exec_placementService_none, fun p l c rest S hpick hq hseg _ => ?_⟩
  have hdt : ((s.setMapQueue p rest).setMark l p).dt = s.dt := by simp
  have hcur : ((s.setMapQueue p rest).setMark l p).cursor ⟨p, c⟩ = s.cursor ⟨p, c⟩ := by simp
  refine ⟨_, exec_placementService_some hpick hq, ?_, by simp, fun q hne => by simp [hne], fun x hx => by simp [hx],
    ?_, ?_, fun e hst => ?_, fun hst => ?_, fun hst => ⟨s.release S, s.onlyChanges_release S, ?_, ?_⟩⟩
  · exact ((s.onlyChanges_setMapQueue p rest).trans (State.onlyChanges_setMark _ l p)).trans
      (State.onlyChanges_place _ _) |>.mono (by decide)
  · rintro rfl
    simpa using State.setMark_high (s.setMapQueue p rest) p
  · rintro rfl
    simpa using State.setMark_low (s.setMapQueue p rest) p
  · rw [State.place_binding (hcur ▸ hseg) (hcur ▸ hst), hcur, placementWalk_congr hdt]
    exact (State.settled_settle _ _ _ _).congr (by simp) hdt.symm (by simp) rfl rfl rfl
  · rw [State.place_crossing (hcur ▸ hseg) (hcur ▸ hst), hcur, placementWalk_congr hdt]
    exact (State.settled_settle _ _ _ _).congr (by simp) hdt.symm (by simp) rfl rfl rfl
  · exact fun _ => s.released_release S
  · have hdt' : (((s.setMapQueue p rest).setMark l p).release S).dt = (s.release S).dt := by
      rw [State.release_dt, State.release_dt, hdt, State.desc, hdt]; rfl
    rw [State.place_revalidating (hcur ▸ hseg) (hcur ▸ hst), hcur, placementWalk_congr hdt']
    exact (State.settled_settle _ _ _ _).congr (by simp) hdt'.symm
      (State.release_notices_congr hdt.symm (by simp) S) rfl rfl rfl

end Sys2Proof.Machine
end

section
/-! ## Every step keeps the map queues exact (O55)

A cursor joins its port's map queue in the event that makes it a mapping one, and leaves it in the event that makes it
another; State.Queued holds before and after each shared operation that takes both halves. -/

namespace Sys2Proof.Machine

/-! ### Cursor records that name their segment (R31, R33) -/

/-- A record that only names no segment when it is CLOSED, and holds the values of R33 then. -/
def Cursor.Named (c : Cursor) : Prop :=
  (c.segment = none → c.state = .closed) ∧ (c.state = .closed → c = Cursor.closed)

theorem Cursor.named_closed : Cursor.closed.Named := ⟨fun _ => rfl, fun _ => rfl⟩

theorem Cursor.named_of_open {c : Cursor} (hs : c.segment ≠ none) (hst : c.state ≠ .closed) : c.Named :=
  ⟨fun e => absurd e hs, fun e => absurd e hst⟩

theorem Cursor.Named.segment_ne_none {c : Cursor} (h : c.Named) (hst : c.state ≠ .closed) : c.segment ≠ none :=
  fun e => hst (h.1 e)

/-- A mapping cursor is not CLOSED (R34). -/
theorem CursorState.ne_closed_of_isMapping {st : CursorState} (h : st.isMapping = true) : st ≠ .closed := by
  rintro rfl; cases h

/-- A cursor a replacement turns is in no mapping state (R18). -/
theorem Cursor.not_isMapping_of_replacedBy {c : Cursor} {S : Seg} (h : c.replacedBy S = true) :
    c.state.isMapping = false := by
  obtain ⟨-, hb | ⟨e, hb⟩⟩ := (Cursor.replacedBy_iff c S).1 h <;> rw [hb] <;> rfl

/-- The end of a walk leaves its cursor with a segment and in no mapping state (R70 to R72). -/
theorem State.settle_leaves (s : State) (id : CursorId) (o : Origin) (w : Walk) :
    ((s.settle id o w).cursor id).Named ∧ ((s.settle id o w).cursor id).state.isMapping = false := by
  cases w <;>
    exact ⟨Cursor.named_of_open (by simp [State.settle, placedCursor, failedCursor])
      (by simp [State.settle, placedCursor, failedCursor]),
      by simp [State.settle, placedCursor, failedCursor, CursorState.isMapping]⟩

/-- The placement of a mapping cursor leaves it with a segment and in no mapping state. -/
theorem State.place_leaves {s : State} {id : CursorId} (hmap : (s.cursor id).state.isMapping = true)
    (hseg : (s.cursor id).segment ≠ none) :
    ((s.place id).cursor id).Named ∧ ((s.place id).cursor id).state.isMapping = false := by
  obtain ⟨S, hS⟩ := Option.ne_none_iff_exists'.1 hseg
  rcases (CursorState.isMapping_iff _).1 hmap with ⟨e, hst⟩ | hst | hst
  · rw [State.place_binding hS hst]; exact State.settle_leaves ..
  · rw [State.place_crossing hS hst]; exact State.settle_leaves ..
  · rw [State.place_revalidating hS hst]; exact State.settle_leaves ..

/-! ### The invariant and the one way to write a cursor with its queue -/

/-- The cursors name their segments, and each map queue holds exactly its port's mapping cursors. -/
structure State.Queued (s : State) : Prop where
  named : ∀ id, (s.cursor id).Named
  queues : s.MapQueuesExact

theorem State.queued_iff (s : State) : s.Queued ↔ s.SegmentsNamed ∧ s.MapQueuesExact :=
  ⟨fun h => ⟨h.named, h.queues⟩, fun h => ⟨h.1, h.2⟩⟩

namespace State.Queued

variable {s t : State}

/-- The invariant speaks of the cursors and the map queues alone. -/
theorem congr (h : s.Queued) (hc : ∀ id, t.cursor id = s.cursor id) (hm : ∀ p, t.mapQueue p = s.mapQueue p) :
    t.Queued where
  named id := by rw [hc]; exact h.named id
  queues p := by simp only [hc, hm]; exact h.queues p

theorem of_onlyChanges (h : s.Queued) {parts : List Part} (ho : s.OnlyChanges t parts) (hc : Part.cursors ∉ parts)
    (hm : Part.mapQueues ∉ parts) : t.Queued :=
  h.congr (fun id => by rw [State.cursor, show t.cursors = s.cursors from ho _ hc]; rfl)
    (fun p => by rw [State.mapQueue, show t.mapQueues = s.mapQueues from ho _ hm]; rfl)

/-- A cursor record is written together with its port's queue: the queue holds the cursor exactly when the record is
a mapping one, and the port's other cursors as before. -/
theorem write {id : CursorId} {c : Cursor} {q : List CursorNo} (h : s.Queued) (hc : c.Named) (hq : q.Nodup)
    (hself : id.cursor ∈ q ↔ c.state.isMapping = true)
    (hrest : ∀ n, n ≠ id.cursor → (n ∈ q ↔ n ∈ s.mapQueue id.port)) :
    ((s.setMapQueue id.port q).setCursor id c).Queued where
  named x := by
    rw [State.cursor_setCursor]
    split
    · exact hc
    · exact h.named x
  queues p := by
    by_cases hp : p = id.port
    · subst hp
      simp only [State.mapQueue_setCursor, State.mapQueue_setMapQueue, State.cursor_setCursor,
        State.cursor_setMapQueue, if_true]
      refine ⟨hq, fun n => ?_⟩
      by_cases hn : n = id.cursor
      · subst hn; simpa using hself
      · have hne : (⟨id.port, n⟩ : CursorId) ≠ id := fun e => hn (congrArg CursorId.cursor e)
        rw [if_neg hne, hrest n hn]
        exact (h.queues id.port).2 n
    · have hne : ∀ n, (⟨p, n⟩ : CursorId) ≠ id := fun n e => hp (congrArg CursorId.port e)
      simpa [hp, hne] using h.queues p

/-- A record of the same kind, mapping or not, leaves the queue as it is. -/
theorem setCursor {id : CursorId} {c : Cursor} (h : s.Queued) (hc : c.Named)
    (hm : c.state.isMapping = (s.cursor id).state.isMapping) : (s.setCursor id c).Queued :=
  (h.write hc (h.queues id.port).1 (by rw [hm]; exact (h.queues id.port).2 id.cursor) (fun _ _ => Iff.rfl)).congr
    (by simp) (fun p => by by_cases hp : p = id.port <;> simp [hp])

/-- A cursor that becomes a mapping one joins its queue (R59). -/
theorem join {id : CursorId} {c : Cursor} (h : s.Queued) (hc : c.Named)
    (hold : (s.cursor id).state.isMapping = false) (hnew : c.state.isMapping = true) :
    ((s.setCursor id c).joinQueue id).Queued := by
  have hout : id.cursor ∉ s.mapQueue id.port := fun hmem => by
    rw [((h.queues id.port).2 id.cursor).1 hmem] at hold; cases hold
  have hq : (s.mapQueue id.port ++ [id.cursor]).Nodup :=
    List.nodup_append.2 ⟨(h.queues id.port).1, by simp, fun a ha b hb e => by
      rw [List.mem_singleton.1 hb] at e; exact hout (e ▸ ha)⟩
  exact (h.write (id := id) hc hq (by simp [hnew]) (fun n hn => by simp [hn])).congr (by simp)
    (fun p => by by_cases hp : p = id.port <;> simp [hp])

/-- A cursor that ends in no mapping state has left its queue (R60). -/
theorem leave {id : CursorId} {c : Cursor} (h : s.Queued) (hc : c.Named) (hnew : c.state.isMapping = false) :
    ((s.leaveQueue id).setCursor id c).Queued :=
  h.write hc ((h.queues id.port).1.filter _) (by simp [hnew]) (fun n hn => by simp [hn])

/-- The head of a queue leaves it and ends in no mapping state (R63). -/
theorem pop {p : Port} {n : CursorNo} {rest : List CursorNo} {c : Cursor} (h : s.Queued)
    (hq : s.mapQueue p = n :: rest) (hc : c.Named) (hnew : c.state.isMapping = false) :
    ((s.setMapQueue p rest).setCursor ⟨p, n⟩ c).Queued := by
  obtain ⟨hnodup, -⟩ := h.queues p
  rw [hq, List.nodup_cons] at hnodup
  obtain ⟨hout, hrest⟩ := hnodup
  exact h.write hc hrest (by simp [hout, hnew]) (fun m hm => by rw [hq, List.mem_cons]; simp_all)

theorem reset : State.reset.Queued where
  named id := by rw [State.reset_cursor]; exact Cursor.named_closed
  queues p := by simp [Cursor.closed, CursorState.isMapping]

/-! ### The broadcasts (R18, R25) -/

theorem broadcastReplace (h : s.Queued) (S : Seg) : (s.broadcastReplace S).Queued where
  named id := by
    rw [State.cursor_broadcastReplace]
    split
    · next hr =>
      obtain ⟨hs, -⟩ := (Cursor.replacedBy_iff _ _).1 hr
      exact Cursor.named_of_open (by simp [hs]) (by simp)
    · exact h.named id
  queues p := by
    obtain ⟨hnodup, hmem⟩ := h.queues p
    simp only [State.mapQueue_broadcastReplace, State.cursor_broadcastReplace]
    refine ⟨List.nodup_append.2 ⟨hnodup, List.Nodup.filter _ (by decide), fun a ha b hb e => ?_⟩, fun n => ?_⟩
    · subst e
      have hstill := Cursor.not_isMapping_of_replacedBy (List.mem_filter.1 hb).2
      rw [(hmem a).1 ha] at hstill
      cases hstill
    · have hall : n ∈ allCursorNos := by revert n; decide
      by_cases hr : (s.cursor ⟨p, n⟩).replacedBy S = true
      · simp [hall, hr, CursorState.isMapping]
      · simp [hr, hmem n]

theorem broadcastRevoke (h : s.Queued) (S : Seg) : (s.broadcastRevoke S).Queued where
  named id := by
    rw [State.cursor_broadcastRevoke, Cursor.revoked]
    split
    · next hr =>
      obtain ⟨hs, -⟩ := (Cursor.holds_iff _ _).1 hr
      exact Cursor.named_of_open (by simp [hs]) (by simp)
    · exact h.named id
  queues p := by
    obtain ⟨hnodup, hmem⟩ := h.queues p
    simp only [State.mapQueue_broadcastRevoke, State.cursor_broadcastRevoke]
    refine ⟨hnodup.filter _, fun n => ?_⟩
    by_cases hr : (s.cursor ⟨p, n⟩).holds S = true
    · simp [Cursor.revoked, hr, CursorState.isMapping]
    · simp [Cursor.revoked, hr, hmem n]

end State.Queued

/-! ### The parts that responses and discards change -/

theorem State.onlyChanges_setTag (s : State) (n : TagNo) (x : Tag) : s.OnlyChanges (s.setTag n x) [.tags] := by
  intro q hq
  cases q <;> simp_all [State.agree]

theorem State.onlyChanges_setRespChannel (s : State) (c : RespChannel) :
    s.OnlyChanges (s.setRespChannel c) [.respChannel] := by
  intro q hq
  cases q <;> simp_all [State.agree]

theorem State.onlyChanges_takeResponse (s : State) (n : TagNo) (error : Bool) (beats : List Lines) :
    s.OnlyChanges (s.takeResponse n error beats) [.tags, .buffers, .slots, .fillList, .postQueue, .notices] := by
  unfold State.takeResponse
  split
  · exact (s.onlyChanges_setTag n _).trans (State.onlyChanges_deliver _ n _ _)
  · exact (s.onlyChanges_setTag n _).mono (by decide)
  · exact .refl s _

/-- The end of a response changes its tag and the channel, and what its delivery reaches (R145 to R148). -/
theorem State.onlyChanges_endResponse (s : State) (n : TagNo) (error : Bool) (beats : List Lines) :
    s.OnlyChanges (s.endResponse n error beats)
      [.respChannel, .tags, .buffers, .slots, .fillList, .postQueue, .notices] := by
  unfold State.endResponse
  split
  · exact (s.onlyChanges_takeResponse n error beats).mono (by decide)
  · exact (s.onlyChanges_setRespChannel _).trans (State.onlyChanges_takeResponse _ _ _ _)
  · exact (s.onlyChanges_setRespChannel _).mono (by decide)

theorem State.onlyChanges_beginResponse (s : State) (n : TagNo) (error : Bool) (data : Lines) :
    s.OnlyChanges (s.beginResponse n error data) [.tags, .respChannel] := by
  unfold State.beginResponse
  split
  · exact (s.onlyChanges_setTag n _).trans (State.onlyChanges_setRespChannel _ _)
  · exact (s.onlyChanges_setTag n _).trans (State.onlyChanges_setRespChannel _ _)
  · exact (s.onlyChanges_setRespChannel _).mono (by decide)

theorem State.onlyChanges_setPort (s : State) (p : Port) (r : PortRec) : s.OnlyChanges (s.setPort p r) [.ports] := by
  intro q hq
  cases q <;> simp_all [State.agree]

theorem State.onlyChanges_notify (s : State) (p : Port) (n : Notice) : s.OnlyChanges (s.notify p n) [.notices] := by
  intro q hq
  cases q <;> simp_all [State.agree]

theorem State.onlyChanges_notifyQuarantine (s : State) (q : Port) :
    s.OnlyChanges (s.notifyQuarantine q) [.notices] := by
  refine List.foldlRecOn (motive := fun u : State => s.OnlyChanges u [.notices]) allPorts _ (.refl s _)
    (fun u hu p _ => ?_)
  split
  · exact (hu.trans (u.onlyChanges_notify _ _)).mono (by decide)
  · exact hu

theorem State.onlyChanges_countExpiry (s : State) (q : Port) : s.OnlyChanges (s.countExpiry q) [.ports, .notices] := by
  unfold State.countExpiry
  dsimp only
  split
  · exact (s.onlyChanges_setPort _ _).trans (State.onlyChanges_notifyQuarantine _ q)
  · exact (s.onlyChanges_setPort _ _).mono (by decide)

/-- The discard of a result changes slot, buffer, tally and notices (R112). -/
theorem State.onlyChanges_discard (s : State) (id : CursorId) :
    s.OnlyChanges (s.discard id) [.slots, .buffers, .notices, .ports] := by
  have hslot : ∀ u : State, u.OnlyChanges (u.setSlot id .empty) [.slots] := by
    intro u q hq
    cases q <;> simp_all [State.agree]
  have hbuffer : ∀ (u : State) b, u.OnlyChanges (u.setBuffer id b) [.buffers] := by
    intro u b q hq
    cases q <;> simp_all [State.agree]
  unfold State.discard
  split
  · exact ((hslot s).trans (State.onlyChanges_countExpiry _ _)).mono (by decide)
  · exact ((((hslot s).trans (hbuffer _ _)).trans (State.onlyChanges_notify _ _ _)).trans
      (State.onlyChanges_countExpiry _ _)).mono (by decide)

namespace State.Queued

variable {s t : State}

/-! ### Requests of cursors -/

theorem openBody (h : s.Queued) (id : CursorId) (S : Seg) (offset : Word) (stride : BitVec 16)
    (expected : Option (BitVec 8)) : (openBody id S offset stride expected s).1.Queued := by
  have hopen : ∀ c : Cursor, c.state = .binding expected → c.segment = some S →
      (s.cursor id).state.isMapping = false → ((s.setCursor id c).joinQueue id).Queued := fun c hc hs hold =>
    h.join (Cursor.named_of_open (by simp [hs]) (by simp [hc])) hold (by rw [hc]; rfl)
  unfold Machine.openBody
  dsimp only
  split
  · next hs => exact hopen _ rfl rfl (by rw [hs]; rfl)
  · next hs => exact hopen _ rfl rfl (by rw [hs]; rfl)
  · exact h

theorem closeCursor (h : s.Queued) (id : CursorId) : (s.closeCursor id).Queued := by
  by_cases hc : (s.cursor id).state = .closed
  · rw [State.closeCursor_of_closed s id hc]; exact h
  · rw [State.closeCursor_of_open s id hc]
    exact (h.leave (id := id) Cursor.named_closed rfl).congr (by simp) (by simp)

/-- A record of the same segment takes the place of one that is open and not mapping, and is such itself. -/
theorem rewrite {id : CursorId} {c : Cursor} (h : s.Queued) (hold : (s.cursor id).state.isMapping = false)
    (hopen : (s.cursor id).state ≠ .closed) (hseg : c.segment = (s.cursor id).segment)
    (hnew : c.state.isMapping = false) (hst : c.state ≠ .closed) : (s.setCursor id c).Queued :=
  h.setCursor (Cursor.named_of_open (by rw [hseg]; exact (h.named id).segment_ne_none hopen) hst)
    (hnew.trans hold.symm)

theorem seekTaken (h : s.Queued) {id : CursorId} (hold : (s.cursor id).state.isMapping = false)
    (hopen : (s.cursor id).state ≠ .closed) (offset : Word) (stride : Option (BitVec 16)) (n : Nat) :
    (seekTaken id offset stride n s).1.Queued := by
  have hset := h.rewrite
    (c := { s.cursor id with state := .bound, offset := offset, stride := stride.getD (s.cursor id).stride })
    hold hopen rfl rfl (by simp)
  exact hset.congr (by simp [Machine.seekTaken]) (by simp [Machine.seekTaken])

theorem seekBody (h : s.Queued) (id : CursorId) (offset : Word) (stride : Option (BitVec 16)) :
    (seekBody id offset stride s).1.Queued := by
  have hheld : ((s.cursor id).state = .bound ∨ ∃ e, (s.cursor id).state = .exhausted e) →
      (Machine.seekBody id offset stride s).1.Queued := by
    intro hst
    cases hseg : (s.cursor id).segment with
    | none => rw [seekBody_noSegment hst hseg]; exact h
    | some S =>
      by_cases hin : offset.toNat < (s.desc S).length
      · rw [seekBody_taken hst hseg hin]
        rcases hst with hst | ⟨e, hst⟩ <;> exact h.seekTaken (by rw [hst]; rfl) (by simp [hst]) ..
      · rw [seekBody_outOfRange hst hseg (Nat.not_lt.1 hin)]; exact h
  cases hst : (s.cursor id).state with
  | closed => rw [seekBody_closed hst]; exact h
  | faulted => rw [seekBody_faulted hst]; exact h
  | binding => rw [seekBody_mapping (by rw [hst]; rfl)]; exact h
  | crossing => rw [seekBody_mapping (by rw [hst]; rfl)]; exact h
  | revalidating => rw [seekBody_mapping (by rw [hst]; rfl)]; exact h
  | bound => exact hheld (.inl hst)
  | exhausted e => exact hheld (.inr ⟨e, hst⟩)

/-- An advance keeps the queues: only a crossing makes the cursor a mapping one, and it joins its queue then (R46). -/
theorem advance {id : CursorId} (h : s.Queued) (hold : (s.cursor id).state.isMapping = false)
    (hopen : (s.cursor id).state ≠ .closed) (S : Seg) (m : Nat) : (s.advance id S m).Queued := by
  unfold State.advance
  dsimp only
  split
  · exact h.rewrite hold hopen rfl rfl (by simp)
  · next T x _ =>
    have hcross := h.join (id := id)
      (c := { s.cursor id with state := .crossing, segment := some T, offset := s.heldOffset 0 2147483647 x })
      (Cursor.named_of_open (by simp) (by simp)) hold rfl
    exact hcross.congr (by simp) (by simp)
  · next side x _ =>
    have hend := h.rewrite
      (c := { s.cursor id with
        state := .exhausted side
        offset :=
          s.heldOffset (exhaustedLimits (s.desc S).length side).1 (exhaustedLimits (s.desc S).length side).2 x })
      hold hopen rfl rfl (by simp)
    exact hend.congr (by simp) (by simp)

/-- An advance of a BOUND cursor, after parts other than the cursors and the queues have changed. -/
theorem advance_of_bound {u : State} {id : CursorId} (h : s.Queued) (hb : (s.cursor id).state = .bound)
    (hc : ∀ x, u.cursor x = s.cursor x) (hm : ∀ p, u.mapQueue p = s.mapQueue p) (S : Seg) (m : Nat) :
    (u.advance id S m).Queued :=
  (h.congr hc hm).advance (by rw [hc, hb]; rfl) (by rw [hc, hb]; simp) S m

theorem readAhead (h : s.Queued) {id : CursorId} (hb : (s.cursor id).state = .bound) (S : Seg) (z : AccessSize) :
    (readAhead id S z s).1.Queued := by
  have hmiss : (readMiss id S z s).1.Queued := h.congr (by simp [readMiss]) (by simp [readMiss])
  have hcollect : (s.collectSlot id).Queued := h.congr (by simp [State.collectSlot]) (by simp [State.collectSlot])
  unfold Machine.readAhead
  split
  · split
    · exact hmiss
    · dsimp only
      split
      · exact h.advance_of_bound hb (by simp) (by simp) S 1
      · exact hmiss
    · exact h.congr (by simp [readRetarget]) (by simp [readRetarget])
  · split <;> exact h
  · split
    · unfold readCollect
      split
      · exact h.advance_of_bound hb (by simp [State.collectSlot]) (by simp [State.collectSlot]) S 1
      · exact hcollect
      · exact hcollect
    · exact h

theorem readBody (h : s.Queued) (id : CursorId) (z : AccessSize) : (readBody id z s).1.Queued := by
  unfold Machine.readBody
  split
  · exact h
  · next S hp =>
    obtain ⟨hb, -⟩ := passes_of_accessCheck hp
    exact h.readAhead hb S z

theorem writeBody (h : s.Queued) (id : CursorId) (z : AccessSize) (data : List Word) :
    (writeBody id z data s).1.Queued := by
  unfold Machine.writeBody
  split
  · exact h
  · next S hp =>
    obtain ⟨hb, -⟩ := passes_of_accessCheck hp
    split
    · exact h
    · split
      · exact h
      · split
        · exact h
        · exact h.advance_of_bound hb (by simp) (by simp) S 1

/-! ### Requests of the stack -/

theorem pushHeld (h : s.Queued) (id : CursorId) (S : Seg) (side : Option Side) (mark : Mark) :
    (pushHeld id S side mark s).1.Queued := by
  unfold Machine.pushHeld
  dsimp only
  split
  · exact h
  · exact h.congr (by simp) (by simp)

theorem pushBody (h : s.Queued) (id : CursorId) : (pushBody id s).1.Queued := by
  unfold Machine.pushBody
  split
  · exact h.pushHeld ..
  · exact h.pushHeld ..
  · exact h.pushHeld ..
  · exact h

/-- A context is restored into a cursor in no mapping state: a STALE one makes it REVALIDATING (R86 to R88). -/
theorem restore {id : CursorId} (h : s.Queued) (hold : (s.cursor id).state.isMapping = false) (x : Context) (k : Nat) :
    (s.restore id x k).Queued := by
  have hnamed : ∀ (st : CursorState) (o : Word) (w : Bool), st ≠ .closed → (x.cursor st o w).Named :=
    fun st o w hst => Cursor.named_of_open (by simp [Context.cursor]) hst
  unfold State.restore
  cases x.mark <;> dsimp only
  case stale =>
    have hjoin := h.join (id := id)
      (hnamed .revalidating (s.heldOffset (-2147483648) 2147483647 (x.offset.toInt + k * x.stride.toInt)) x.writeRight
        (by simp)) hold rfl
    exact hjoin.congr (by simp [State.restoreStale]) (by simp [State.restoreStale])
  case revoked => exact h.setCursor (hnamed _ _ _ (by simp)) hold.symm
  case valid =>
    have hadvance : ∀ st : CursorState, st.isMapping = false → st ≠ .closed →
        (if k = 0 then s.setCursor id (x.cursor st x.offset x.writeRight)
          else (s.setCursor id (x.cursor st x.offset x.writeRight)).advance id x.segment k).Queued := by
      intro st hmap hst
      have hset : (s.setCursor id (x.cursor st x.offset x.writeRight)).Queued :=
        h.setCursor (hnamed st _ _ hst) (hmap.trans hold.symm)
      split
      · exact hset
      · exact hset.advance (by simpa [Context.cursor] using hmap) (by simpa [Context.cursor] using hst) _ k
    unfold State.restoreValid
    cases x.side with
    | none => exact hadvance .bound rfl (by simp)
    | some side => exact hadvance (.exhausted side) rfl (by simp)

theorem popBody (h : s.Queued) (id : CursorId) (k : Nat) : (popBody id k s).1.Queued := by
  unfold Machine.popBody
  split
  · exact h
  · next hmap =>
    split
    · exact h
    · next x rest _ =>
      have hclear : ((s.popClear id).setStack id.port rest).Queued :=
        h.congr (by simp [State.popClear]) (by simp [State.popClear])
      exact hclear.restore (by simpa [State.popClear] using hmap) x k

theorem letGo (h : s.Queued) (x : Context) : (s.letGo x).Queued := h.congr (by simp) (by simp)

theorem setStack (h : s.Queued) (p : Port) (st : List Context) : (s.setStack p st).Queued :=
  h.congr (by simp) (by simp)

theorem dropBody (h : s.Queued) (p : Port) : (dropBody p s).1.Queued := by
  unfold Machine.dropBody
  split
  · exact h
  · exact (h.setStack p _).letGo _

/-! ### COMMIT and RETIRE -/

theorem commitDone (h : s.Queued) (p : Port) (S : Seg) (d : Descriptor) : (commitDone p S d s).1.Queued :=
  h.of_onlyChanges (s.onlyChanges_commitDone p S d) (by decide) (by decide)

theorem commitBody (h : s.Queued) (p : Port) (S : Seg) : (commitBody p S s).1.Queued := by
  unfold Machine.commitBody
  dsimp only
  split
  · exact h
  · split
    · exact h
    · split
      · exact h
      · split
        · exact h
        · exact h.commitDone ..
    · split
      · exact h
      · exact (h.commitDone ..).broadcastReplace S

theorem setDesc (h : s.Queued) (S : Seg) (d : Descriptor) : (s.setDesc S d).Queued := h.congr (by simp) (by simp)

theorem forceRetire (h : s.Queued) (S : Seg) : (s.forceRetire S).Queued :=
  (h.broadcastRevoke S).congr (by simp [State.forceRetire]) (by simp [State.forceRetire])

theorem retireBody (h : s.Queued) (p : Port) (forced : Bool) (S : Seg) : (retireBody p forced S s).1.Queued := by
  unfold Machine.retireBody
  dsimp only
  split
  · exact h
  · split
    · exact h.setDesc ..
    · split
      · exact h.forceRetire S
      · exact h.setDesc ..
  · split
    · exact h.forceRetire S
    · exact h

/-! ### The port requests and the resets -/

theorem fetchBody (h : s.Queued) (p : Port) : (fetchBody p s).1.Queued := by
  unfold Machine.fetchBody
  dsimp only
  split
  all_goals exact h.congr (by simp) (by simp)

theorem setPort (h : s.Queued) (p : Port) (r : PortRec) : (s.setPort p r).Queued := h.congr (by simp) (by simp)

theorem setPortBody (h : s.Queued) (q : Port) (a : Option Authority) (pr : Option Priority) (n : Option Nat)
    (i : Option Interval) : (setPortBody q a pr n i s).1.Queued := by
  unfold Machine.setPortBody
  dsimp only
  split
  · exact h
  · exact h.setPort ..

theorem releasePortBody (h : s.Queued) (q : Port) : (releasePortBody q s).1.Queued := by
  unfold Machine.releasePortBody
  split
  · exact h
  · exact h.congr (by simp) (by simp)

/-- A port reset closes its cursors one after the other; its other steps leave cursors and queues alone (R170). -/
theorem resetPort (h : s.Queued) (q : Port) : (s.resetPort q).Queued := by
  have hnotices : (s.setNotices q ⟨[], false⟩).Queued := h.congr (by simp) (by simp)
  have hcursors : ((s.setNotices q ⟨[], false⟩).resetCursors q).Queued :=
    List.foldlRecOn (motive := State.Queued) allCursorNos _ hnotices (fun _ hu c _ => hu.closeCursor ⟨q, c⟩)
  have hstack : (((s.setNotices q ⟨[], false⟩).resetCursors q).resetStack q).Queued :=
    List.foldlRecOn (motive := State.Queued) _ _ (hcursors.setStack q []) (fun _ hu x _ => hu.letGo x)
  exact hstack.setPort ..

/-! ### The placement service -/

/-- A service takes the head entry off its queue and places its cursor (R63). -/
theorem serveEntry (h : s.Queued) (p : Port) (level : Priority) : (s.serveEntry p level).Queued := by
  unfold State.serveEntry
  split
  · exact h
  · next c rest hq =>
    have hmap : (s.cursor ⟨p, c⟩).state.isMapping = true :=
      ((h.queues p).2 c).1 (by rw [hq]; exact List.mem_cons_self ..)
    have hseg := (h.named ⟨p, c⟩).segment_ne_none (CursorState.ne_closed_of_isMapping hmap)
    obtain ⟨hnamed, hnew⟩ := State.place_leaves (s := (s.setMapQueue p rest).setMark level p) (id := ⟨p, c⟩)
      (by simpa using hmap) (by simpa using hseg)
    refine (h.pop hq hnamed hnew).congr (fun x => ?_) (by simp)
    by_cases hx : x = ⟨p, c⟩ <;> simp [hx]

/-! ### A step -/

theorem answer (h : s.Queued) (p : Port) (r : Response) : (s.answer p r).Queued := h.congr (by simp) (by simp)

theorem holdRequest (h : s.Queued) (p : Port) (i : Instr) : (s.holdRequest p i).Queued :=
  h.congr (by simp) (by simp)

/-- A request keeps the queues when what it carries out keeps them: waiting and refusals change the link alone. -/
theorem serve {i : Instr} {p : Port} {f : Option ArgField} {tb qt : Bool} {body : State → State × Response}
    (h : s.Queued) (hs : serve i p f tb qt body s = .next t) (hbody : (body s).1.Queued) : t.Queued := by
  rcases serve_cases i p f tb qt body s with ⟨-, e⟩ | ⟨r, -, -, e⟩ | ⟨-, -, e⟩ <;> rw [e] at hs <;> cases hs
  · exact h.holdRequest p i
  · exact h.answer p _
  · exact hbody.answer p _

theorem refuseForm {i : Instr} {p : Port} (h : s.Queued) (hs : refuseForm i p s = .next t) : t.Queued := by
  unfold Machine.refuseForm at hs
  split at hs <;> cases hs
  · exact h.answer p _
  · exact h.holdRequest p i

theorem execWrite {p : Port} {n : BitVec 4} {z : BitVec 3} {data : List Word} (h : s.Queued)
    (hs : execWrite p n z data s = .next t) : t.Queued := by
  unfold Machine.execWrite at hs
  split at hs
  · exact h.serve hs (h.writeBody _ _ _)
  · exact h.refuseForm hs

theorem execPlacementService (h : s.Queued) (hs : execPlacementService s = .next t) : t.Queued := by
  unfold Machine.execPlacementService at hs
  split at hs <;> cases hs
  · exact h
  · exact h.serveEntry _ _

theorem execGrant {ready : Bool} (h : s.Queued) (hs : execGrant ready s = .next t) : t.Queued := by
  unfold Machine.execGrant at hs
  split at hs
  · split at hs <;> cases hs
    · exact h
    · exact h.of_onlyChanges (s.onlyChanges_grantTo _) (by decide) (by decide)
  · cases hs; exact h

theorem execFirstBeat {n : TagNo} {error : Bool} {data : Lines} (h : s.Queued)
    (hs : execFirstBeat n error data s = .next t) : t.Queued := by
  unfold Machine.execFirstBeat at hs
  split at hs <;> cases hs
  · exact h.of_onlyChanges (s.onlyChanges_beginResponse n error data) (by decide) (by decide)
  · exact h
  · exact h

theorem endResponse (h : s.Queued) (n : TagNo) (error : Bool) (beats : List Lines) :
    (s.endResponse n error beats).Queued :=
  h.of_onlyChanges (s.onlyChanges_endResponse n error beats) (by decide) (by decide)

theorem execResponseTimerExpiry {n : TagNo} (h : s.Queued) (hs : execResponseTimerExpiry n s = .next t) :
    t.Queued := by
  unfold Machine.execResponseTimerExpiry at hs
  split at hs <;> cases hs
  · exact h.of_onlyChanges ((s.onlyChanges_setTag n _).trans (State.onlyChanges_deliver _ n _ _)) (by decide)
      (by decide)
  · exact h
  · exact h
  · exact h

theorem execDiscardTimerExpiry {p : Port} {c : CursorNo} (h : s.Queued)
    (hs : execDiscardTimerExpiry p c s = .next t) : t.Queued := by
  unfold Machine.execDiscardTimerExpiry at hs
  split at hs <;> cases hs
  · exact h.of_onlyChanges (s.onlyChanges_discard _) (by decide) (by decide)
  · exact h
  · exact h

/-- A device reset leaves the cursors and the queues of the reset state (R173). -/
theorem execDeviceReset {straps : BitVec 4} (hs : execDeviceReset straps s = .next t) : t.Queued := by
  cases hs
  exact reset.congr (fun _ => rfl) (fun _ => rfl)

theorem reoffer (h : s.Queued) (p : Port) : (s.reoffer p).Queued := h.congr (by simp) (by simp)

/-- Every command keeps the queues. -/
theorem exec (h : s.Queued) {i : Instr} (hs : exec i s = .next t) : t.Queued := by
  cases i <;> simp only [Machine.exec, execOpen, execClose, execSeek, execRead, execQueryCursor, execPush, execPop,
    execDrop, execStage, execCommit, execRetire, execQuerySegment, execFetchNotice, execSetPort, execReleasePort,
    execResetPort, execBadRequest, execMemoryResponse, execLateOrStray, execLastWordPassed] at hs
  case openCursor => exact h.serve hs (h.openBody ..)
  case closeCursor => exact h.serve hs (h.closeCursor _)
  case seek => exact h.serve hs (h.seekBody ..)
  case read => exact h.serve hs (h.readBody ..)
  case write => exact h.execWrite hs
  case queryCursor => exact h.serve hs h
  case push => exact h.serve hs (h.pushBody _)
  case pop => exact h.serve hs (h.popBody ..)
  case drop => exact h.serve hs (h.dropBody _)
  case stage => exact h.serve hs (h.setPort ..)
  case commit => exact h.serve hs (h.commitBody ..)
  case retire => exact h.serve hs (h.retireBody ..)
  case querySegment => exact h.serve hs h
  case fetchNotice => exact h.serve hs (h.fetchBody _)
  case setPort => exact h.serve hs (h.setPortBody ..)
  case releasePort => exact h.serve hs (h.releasePortBody _)
  case resetPort => exact h.serve hs (h.resetPort _)
  case badRequest => exact h.refuseForm hs
  case placementService => exact h.execPlacementService hs
  case grant => exact h.execGrant hs
  case responseFirstBeat => exact h.execFirstBeat hs
  case memoryResponse => cases hs; exact h.endResponse ..
  case lateOrStrayResponse => cases hs; exact h.endResponse ..
  case responseTimerExpiry => exact h.execResponseTimerExpiry hs
  case discardTimerExpiry => exact h.execDiscardTimerExpiry hs
  case deviceReset => exact execDeviceReset hs
  case responseLastWordPassed => cases hs; exact h.reoffer _

end State.Queued

/-- Settles O55: a step runs one command, and every command keeps the queues. -/
theorem stepKeepsMapQueuesExact : Obligations.StepKeepsMapQueuesExact := by
  intro s t hnamed hqueues hs
  have h : s.Queued := s.queued_iff.2 ⟨hnamed, hqueues⟩
  rw [← State.queued_iff]
  unfold step at hs
  split at hs
  · cases hs; exact h
  · next c rest _ =>
    have hrest : State.Queued { s with pending := rest } := h.congr (fun _ => rfl) (fun _ => rfl)
    exact hrest.exec hs

end Sys2Proof.Machine
end

section
/-! ## PUSH, POP and DROP (O36 to O39)

What each body answers past its refusals, what the two steps of a POP do, and the statements read off these. -/

namespace Sys2Proof.Machine

/-! ### The parts the shared operations change -/

theorem State.onlyChanges_setStack (s : State) (p : Port) (st : List Context) :
    s.OnlyChanges (s.setStack p st) [.ctxStacks] := by
  intro q hq
  cases q <;> simp_all [State.agree]

theorem State.onlyChanges_claim (s : State) (S : Seg) : s.OnlyChanges (s.claim S) [.dt] := by
  intro q hq
  cases q <;> simp_all [State.agree]

theorem State.onlyChanges_letGo (s : State) (x : Context) : s.OnlyChanges (s.letGo x) [.dt, .notices] := by
  intro q hq
  cases q <;> simp_all [State.agree]

theorem State.onlyChanges_spendOffset (s : State) (x : Int) : s.OnlyChanges (s.spendOffset x) [.freeCount] := by
  intro q hq
  cases q <;> simp_all [State.agree]

theorem State.onlyChanges_answer (s : State) (p : Port) (r : Response) : s.OnlyChanges (s.answer p r) [.links] := by
  intro q hq
  cases q <;> simp_all [State.agree]

/-! ### PUSH (R83) -/

section
variable {id : CursorId} {s : State} {S : Seg}

theorem pushHeld_room (side : Option Side) (mark : Mark) (hroom : (s.stack id.port).length < 8) :
    pushHeld id S side mark s =
      ((s.setStack id.port (contextOf (s.cursor id) S side mark :: s.stack id.port)).claim S,
        stackDone (s.cursor id).state.code ((s.stack id.port).length + 1) mark) := by
  simp [pushHeld, Config.stackDepth, hroom]

theorem pushBody_bound (hseg : (s.cursor id).segment = some S) (hst : (s.cursor id).state = .bound) :
    pushBody id s = pushHeld id S none .valid s := by
  simp [pushBody, hseg, hst]

theorem pushBody_exhausted {e : Side} (hseg : (s.cursor id).segment = some S)
    (hst : (s.cursor id).state = .exhausted e) : pushBody id s = pushHeld id S (some e) .valid s := by
  simp [pushBody, hseg, hst]

theorem pushBody_revalidating (hseg : (s.cursor id).segment = some S)
    (hst : (s.cursor id).state = .revalidating) : pushBody id s = pushHeld id S none .stale s := by
  simp [pushBody, hseg, hst]

end

/-- Settles O36: the side and the mark are those of the cursor's state; what is pushed and claimed is the same in
each. -/
theorem pushSavesAContext : Obligations.PushSavesAContext := by
  intro p target S s
  dsimp only
  intro hadm htarget hseg hroom
  have hpushed : ∀ side mark code, (s.cursor (cursorOf p target)).state.code = code →
      pushBody (cursorOf p target) s = pushHeld (cursorOf p target) S side mark s →
      ∃ t, exec (.push p target) s = .next t ∧
        s.Took t p (.done code false (auxField ((s.stack p).length + 1) mark.code false) []) [.dt, .ctxStacks] ∧
        t.stack p = contextOf (s.cursor (cursorOf p target)) S side mark :: s.stack p ∧ s.SameStacksBut t p ∧
        t.desc S = { s.desc S with bindCount := (s.desc S).bindCount + 1 } ∧ s.SameDescsBut t S := by
    rintro side mark _ rfl hbody
    have he := exec_push hadm htarget
    rw [hbody, pushHeld_room side mark hroom] at he
    refine ⟨_, he, ?_, by simp, fun q hq => by simp [hq], by simp, fun T hT => by simp [hT]⟩
    exact .of_body (((s.onlyChanges_setStack _ _).trans (State.onlyChanges_claim _ S)).mono (by decide)) rfl
  exact ⟨fun h => hpushed none .valid .bound (by rw [h]; rfl) (pushBody_bound hseg h),
    fun e h => hpushed (some e) .valid (.exhausted e) (by rw [h]; rfl) (pushBody_exhausted hseg h),
    fun h => hpushed none .stale .revalidating (by rw [h]; rfl) (pushBody_revalidating hseg h)⟩

/-! ### DROP (R89) -/

section
variable {p : Port} {s : State}

theorem dropBody_empty (hst : s.stack p = []) : dropBody p s = (s, .refused .stackEmpty) := by
  simp [dropBody, hst]

theorem dropBody_cons {x : Context} {rest : List Context} (hst : s.stack p = x :: rest) :
    dropBody p s = ((s.setStack p rest).letGo x, stackDone .noState rest.length x.mark) := by
  simp [dropBody, hst]

end

/-- A VALID or STALE context let go releases its binding (R81). -/
theorem State.letGo_of_held (s : State) {x : Context} (hm : x.mark ≠ .revoked) : s.letGo x = s.release x.segment := by
  unfold State.letGo
  cases h : x.mark with
  | valid => rfl
  | stale => rfl
  | revoked => exact absurd h hm

/-- A REVOKED context has no binding to release (R80). -/
theorem State.letGo_of_revoked (s : State) {x : Context} (hm : x.mark = .revoked) : s.letGo x = s := by
  simp [State.letGo, hm]

/-- Settles O39: the context leaves the stack and is let go by its mark. -/
theorem dropRemovesTheTopContext : Obligations.DropRemovesTheTopContext := by
  intro p s hadm
  have he := exec_drop hadm
  refine ⟨fun hst => ?_, fun x rest hst => ?_⟩
  · rw [he, dropBody_empty hst]
  · rw [dropBody_cons hst] at he
    refine ⟨_, he, ?_, by simp, fun q hq => by simp [hq], fun hm => ?_, fun hm => ?_⟩
    · exact .of_body (((s.onlyChanges_setStack p rest).trans (State.onlyChanges_letGo _ x)).mono (by decide)) (by simp)
    · rw [State.letGo_of_held _ hm]
      exact ((s.setStack p rest).released_release x.segment).congr rfl rfl rfl rfl
    · rw [State.letGo_of_revoked _ hm]
      exact ⟨rfl, rfl⟩

/-! ### POP: the cursor is cleared (R85) -/

theorem popBody_taken {id : CursorId} {k : Nat} {s : State} {x : Context} {rest : List Context}
    (hmap : (s.cursor id).state.isMapping = false) (hst : s.stack id.port = x :: rest) :
    popBody id k s = popTaken id x rest k s := by
  simp [popBody, hmap, hst]

/-- A POP taken: the cursor cleared, the context off the stack and restored, the state it comes to reported (R84). -/
theorem exec_pop_taken {p : Port} {target : BitVec 4} {k : BitVec 8} {s : State} {x : Context} {rest : List Context}
    (hadm : s.Admits p false false) (htarget : target.toNat < 8) (hk : k.toNat < 16)
    (hmap : (s.cursor (cursorOf p target)).state.isMapping = false) (hst : s.stack p = x :: rest) :
    exec (.pop p target k) s =
      let t := ((s.popClear (cursorOf p target)).setStack p rest).restore (cursorOf p target) x k.toNat
      .next (t.answer p (stackDone (t.cursor (cursorOf p target)).state.code rest.length x.mark)) := by
  rw [exec_pop hadm htarget hk, popBody_taken hmap hst]
  rfl

section
variable (s : State) (id : CursorId)

theorem State.onlyChanges_popClear : s.OnlyChanges (s.popClear id) [.dt, .notices, .slots, .buffers, .fillList] :=
  (s.onlyChanges_releaseOf _).trans (State.onlyChanges_cancelRead _ id false)

@[simp] theorem State.cursor_popClear (x : CursorId) : (s.popClear id).cursor x = s.cursor x := by
  simp [State.popClear]

@[simp] theorem State.stack_popClear (q : Port) : (s.popClear id).stack q = s.stack q := by
  simp [State.popClear]

@[simp] theorem State.mapQueue_popClear (q : Port) : (s.popClear id).mapQueue q = s.mapQueue q := by
  simp [State.popClear]

theorem State.popClear_links : (s.popClear id).links = s.links := by
  simp [State.popClear]

theorem State.cancelled_popClear : s.Cancelled (s.popClear id) id false :=
  (State.cancelled_cancelRead _ id false).congr (by simp) (by simp) (by simp) rfl rfl rfl

variable {s id}

/-- The binding of a BOUND or EXHAUSTED cursor is released. -/
theorem State.released_popClear {S : Seg}
    (hst : (s.cursor id).state = .bound ∨ ∃ e, (s.cursor id).state = .exhausted e)
    (hseg : (s.cursor id).segment = some S) : s.Released (s.popClear id) S := by
  have hheld : (s.cursor id).state.holdsBinding = true := by
    rcases hst with h | ⟨e, h⟩ <;> rw [h] <;> rfl
  rw [State.popClear, State.releaseOf_of_holds s _ S hheld hseg]
  exact (s.released_release S).congr rfl rfl rfl rfl

/-- A CLOSED or FAULTED cursor has no binding to release. -/
theorem State.popClear_of_free (hst : (s.cursor id).state = .closed ∨ ∃ r, (s.cursor id).state = .faulted r) :
    (s.popClear id).dt = s.dt ∧ (s.popClear id).notices = s.notices := by
  have hfree : (s.cursor id).state.holdsBinding = false := by
    rcases hst with h | ⟨r, h⟩ <;> rw [h] <;> rfl
  rw [State.popClear, State.releaseOf_of_not_holds s _ hfree]
  exact ⟨rfl, rfl⟩

end

/-! ### POP: the restore of a VALID context (R86) -/

/-- The record a VALID context restores, before any advance resolution. -/
def Context.revived (x : Context) : Cursor where
  state := match x.side with
    | none => .bound
    | some e => .exhausted e
  segment := some x.segment
  generation := x.generation
  offset := x.offset
  stride := x.stride
  writeRight := x.writeRight

section
variable {s : State} {id : CursorId} {x : Context} (hm : x.mark = .valid)
include hm

theorem State.restore_of_valid (k : Nat) :
    s.restore id x k =
      if k = 0 then s.setCursor id x.revived else (s.setCursor id x.revived).advance id x.segment k := by
  rw [State.restore, hm]; rfl

theorem State.restore_of_valid_zero : s.restore id x 0 = s.setCursor id x.revived := by
  rw [State.restore_of_valid hm, if_pos rfl]

theorem State.restore_of_valid_pos {k : Nat} (hk : k ≠ 0) :
    s.restore id x k = (s.setCursor id x.revived).advance id x.segment k := by
  rw [State.restore_of_valid hm, if_neg hk]

/-- What follows the record's restore is advance resolution or nothing. -/
theorem State.onlyChanges_restore_of_valid (k : Nat) :
    (s.setCursor id x.revived).OnlyChanges (s.restore id x k) [.cursors, .dt, .notices, .mapQueues, .freeCount] := by
  rcases eq_or_ne k 0 with rfl | hk
  · rw [State.restore_of_valid_zero hm]
    exact .refl _ _
  · rw [State.restore_of_valid_pos hm hk]
    exact State.onlyChanges_advance _ _ _ _

end

/-- The answer to a request leaves its advance as it was. -/
theorem State.Advanced.answer {s t : State} {id : CursorId} {S : Seg} {m : Nat} (h : s.Advanced t id S m) (p : Port)
    (r : Response) : s.Advanced (t.answer p r) id S m :=
  h.congr rfl rfl rfl rfl rfl rfl rfl rfl

/-- Settles O37: the cursor is cleared (u), the record restored from the stack (v), and the strides taken from there
(t). -/
theorem popRestoresAValidContext : Obligations.PopRestoresAValidContext := by
  intro p target k x rest s
  dsimp only
  intro hadm htarget hk hmap hst hmark
  have he := exec_pop_taken hadm htarget hk hmap hst
  rw [hmark] at he
  have hrest := State.onlyChanges_restore_of_valid (s := (s.popClear (cursorOf p target)).setStack p rest)
    (id := cursorOf p target) hmark k.toNat
  refine ⟨s.popClear (cursorOf p target),
    ((s.popClear (cursorOf p target)).setStack p rest).setCursor (cursorOf p target) x.revived, _, he,
    s.onlyChanges_popClear _, s.cancelled_popClear _, fun S => State.released_popClear, State.popClear_of_free,
    (State.onlyChanges_setStack _ p rest).trans (State.onlyChanges_setCursor _ _ _), by simp, fun q hq => by simp [hq],
    fun y hy => by simp [hy], ?_, ?_, fun hk0 => ?_, fun hk0 => ?_⟩
  · rw [State.cursor_setCursor, if_pos rfl]; rfl
  · rw [State.cursor_answer]
    exact .of_body hrest (hrest .links (by decide))
  · subst hk0
    rw [show (0 : BitVec 8).toNat = 0 from rfl, State.restore_of_valid_zero hmark]
    exact ⟨State.cursor_answer .., State.onlyChanges_answer _ _ _⟩
  · have hpos : k.toNat ≠ 0 := fun h => hk0 (BitVec.eq_of_toNat_eq (by simpa using h))
    rw [State.restore_of_valid_pos hmark hpos]
    exact (State.advanced_advance _ _ _ _).answer p _

/-! ### POP: the restore of a STALE or REVOKED context (R87, R88) -/

section
variable (s : State) (id : CursorId) {x : Context} (k : Nat)

theorem State.restore_of_stale (hm : x.mark = .stale) : s.restore id x k = s.restoreStale id x k := by
  rw [State.restore, hm]

theorem State.restore_of_revoked (hm : x.mark = .revoked) : s.restore id x k = s.restoreRevoked id x := by
  rw [State.restore, hm]

theorem State.onlyChanges_restoreStale (x : Context) :
    s.OnlyChanges (s.restoreStale id x k) [.freeCount, .cursors, .mapQueues] :=
  ((s.onlyChanges_spendOffset _).trans (State.onlyChanges_setCursor _ _ _)).trans (State.onlyChanges_joinQueue _ _)

/-- The restore of a context that is not VALID claims, releases and cancels nothing. -/
theorem State.onlyChanges_restore_of_not_valid (hm : x.mark ≠ .valid) :
    s.OnlyChanges (s.restore id x k) [.freeCount, .cursors, .mapQueues] := by
  cases h : x.mark with
  | valid => exact absurd h hm
  | stale =>
    rw [State.restore_of_stale s id k h]
    exact s.onlyChanges_restoreStale id k x
  | revoked =>
    rw [State.restore_of_revoked s id k h]
    exact (s.onlyChanges_setCursor id _).mono (by decide)

theorem State.stack_restore_of_not_valid (hm : x.mark ≠ .valid) (q : Port) :
    (s.restore id x k).stack q = s.stack q :=
  congrArg (fget · q) (s.onlyChanges_restore_of_not_valid id k hm .ctxStacks (by decide))

theorem State.sameCursorsBut_restore_of_not_valid (hm : x.mark ≠ .valid) : s.SameCursorsBut (s.restore id x k) id := by
  intro y hy
  cases h : x.mark with
  | valid => exact absurd h hm
  | stale => simp [State.restore_of_stale s id k h, State.restoreStale, hy]
  | revoked => simp [State.restore_of_revoked s id k h, State.restoreRevoked, hy]

/-- A STALE context's cursor is REVALIDATING, at the exact offset where that fits (R87, log entry 1). -/
theorem State.cursor_restoreStale (x : Context) :
    (s.restoreStale id x k).cursor id =
      x.cursor .revalidating (s.heldOffset (-2147483648) 2147483647 (x.offset.toInt + k * x.stride.toInt))
        x.writeRight := by
  simp [State.restoreStale]

theorem State.mapQueue_restoreStale (x : Context) (q : Port) :
    (s.restoreStale id x k).mapQueue q =
      if q = id.port then s.mapQueue id.port ++ [id.cursor] else s.mapQueue q := by
  simp [State.restoreStale]

theorem State.cursor_restoreRevoked (x : Context) :
    (s.restoreRevoked id x).cursor id = x.cursor (.faulted .revoked) x.offset false := by
  simp [State.restoreRevoked]

end

/-- Settles O38: the clearing and the stack are the same for both marks; the record, the queue and the answer are the
mark's own. -/
theorem popRestoresAMarkedContext : Obligations.PopRestoresAMarkedContext := by
  intro p target k x rest s
  dsimp only
  intro hadm htarget hk hmap hst hmark
  have he := exec_pop_taken hadm htarget hk hmap hst
  have hpopped := (s.onlyChanges_popClear (cursorOf p target)).trans (State.onlyChanges_setStack _ p rest)
  have hrest := State.onlyChanges_restore_of_not_valid ((s.popClear (cursorOf p target)).setStack p rest)
    (cursorOf p target) k.toNat hmark
  refine ⟨_, he, ?_, fun q hq => ?_, fun y hy => ?_, ?_, fun S hheld hseg => ?_, fun hfree => ?_, fun hm => ?_,
    fun hm => ?_⟩
  · rw [State.stack_answer, State.stack_restore_of_not_valid _ _ _ hmark]; simp
  · rw [State.stack_answer, State.stack_restore_of_not_valid _ _ _ hmark]; simp [hq]
  · rw [State.cursor_answer, State.sameCursorsBut_restore_of_not_valid _ _ _ hmark y hy]; simp
  · exact (s.cancelled_popClear _).congr rfl rfl rfl (hrest .slots (by decide)) (hrest .buffers (by decide))
      (hrest .fillList (by decide))
  · exact (State.released_popClear hheld hseg).congr rfl rfl (hrest .dt (by decide)) (hrest .notices (by decide))
  · obtain ⟨hd, hn⟩ := State.popClear_of_free hfree
    exact ⟨Eq.trans (hrest .dt (by decide)) hd, Eq.trans (hrest .notices (by decide)) hn⟩
  · rw [State.restore_of_stale _ _ _ hm] at hrest ⊢
    rw [State.cursor_restoreStale, hm]
    refine ⟨⟨_, by rw [State.cursor_answer, State.cursor_restoreStale]; rfl, fun hlo hhi => ?_⟩, ?_, fun q hq => ?_,
      ?_⟩
    · exact State.heldOffset_of_fits _ _ _ _ (offsetFits_of hlo hhi)
    · rw [State.mapQueue_answer, State.mapQueue_restoreStale]; simp
    · rw [State.mapQueue_answer, State.mapQueue_restoreStale]; simp [hq]
    · exact .of_body ((hpopped.trans hrest).mono (by decide)) ((hpopped.trans hrest) .links (by decide))
  · rw [State.restore_of_revoked _ _ _ hm, State.cursor_restoreRevoked, hm]
    refine ⟨by rw [State.cursor_answer, State.cursor_restoreRevoked]; rfl, ?_⟩
    exact .of_body ((hpopped.trans (State.onlyChanges_setCursor _ _ _)).mono (by decide)) (State.popClear_links s _)

end Sys2Proof.Machine
end

section
/-! ## READ, by the slot and the buffer it finds (R97)

What the Read-Ahead Unit makes of a READ that passed the checks, one equation for each state of the slot and the
buffer. -/

namespace Sys2Proof.Machine

section
variable {s : State} {id : CursorId} {S : Seg} {z : AccessSize}

/-- The access's bytes lie inside a block exactly as the addresses say (R97). -/
theorem inside_iff (a : Word) (m : Nat) (b : Word) (n : Nat) :
    inside a m b n = true ↔ b.toNat ≤ a.toNat ∧ a.toNat + m ≤ b.toNat + n := by
  simp [inside]

/-! ### An EMPTY slot -/

section
variable (hslot : s.slot id = .empty)
include hslot

theorem readAhead_hit {b : Word} {n : Nat} {bytes : List Byte} (hbuf : s.buffer id = .valid b n bytes)
    (hin : inside (physical (s.desc S) (s.cursor id)) z.bytes b n = true) :
    readAhead id S z s = readHit id S z (blockBytes b bytes (physical (s.desc S) (s.cursor id)) z.bytes) s := by
  simp [readAhead, hslot, hbuf, hin]

theorem readAhead_miss (hbuf : s.buffer id = .empty ∨ ∃ b n bytes, s.buffer id = .valid b n bytes ∧
      inside (physical (s.desc S) (s.cursor id)) z.bytes b n = false) :
    readAhead id S z s = readMiss id S z s := by
  rcases hbuf with hbuf | ⟨b, n, bytes, hbuf, hout⟩
  · simp [readAhead, hslot, hbuf]
  · simp [readAhead, hslot, hbuf, hout]

theorem readAhead_retarget {b : Word} {n : Nat} {void : Bool} {pos : FillPos}
    (hbuf : s.buffer id = .filling b n void pos) : readAhead id S z s = readRetarget id S z void pos s := by
  simp [readAhead, hslot, hbuf]

end

/-! ### A busy slot -/

theorem readAhead_again (hslot : s.slot id = .working z) : readAhead id S z s = (s, .wait .fetching) := by
  simp [readAhead, hslot]

theorem readAhead_mismatch {y : AccessSize} (hy : y ≠ z)
    (hslot : s.slot id = .working y ∨ ∃ r i, s.slot id = .ready y r i) :
    readAhead id S z s = (s, .refused (.readMismatch y)) := by
  rcases hslot with hslot | ⟨r, i, hslot⟩ <;> simp [readAhead, hslot, Ne.symm hy]

theorem readAhead_collect {r : ReadResult} {i : Interval} (hslot : s.slot id = .ready z r i) :
    readAhead id S z s = readCollect id S z r s := by
  simp [readAhead, hslot]

end
end Sys2Proof.Machine
end

section
/-! ## Every step keeps the read path current (O56)

Slots, buffers, fill list and Post Queue change in a few ways only, which State.ReadMove lists: each of the four
invariants is kept by every move, and what a command does to the read path is a sequence of moves. -/

namespace Sys2Proof.Machine

/-! ### The moves of the read path -/

/-- From s to t slots, buffers, fill list and Post Queue stay, and no BOUND cursor with a busy slot leaves BOUND. -/
structure State.LeavesReadPath (s t : State) : Prop where
  slot : ∀ id, t.slot id = s.slot id
  buffer : ∀ id, t.buffer id = s.buffer id
  fillList : t.fillList = s.fillList
  postQueue : t.postQueue = s.postQueue
  bound : ∀ id, s.slot id ≠ .empty → (s.cursor id).state = .bound → (t.cursor id).state = .bound

/-- One thing that can happen to the read path. -/
inductive State.ReadMove (s : State) : State → Prop
  /-- Something else happens. -/
  | aside {t : State} (h : s.LeavesReadPath t) : ReadMove s t
  /-- The read activity of some cursors is cancelled (R116, R117). -/
  | cancel {t : State} (hit : CursorId → Bool) (keepValid : Bool)
      (hslot : ∀ x, t.slot x = if hit x then .empty else s.slot x)
      (hbuffer : ∀ x, t.buffer x = if hit x then (s.buffer x).cancelled keepValid else s.buffer x)
      (hlist : t.fillList = s.fillList.filter (fun x => !hit x)) (hqueue : t.postQueue = s.postQueue)
      (hcursor : ∀ x, hit x = false → t.cursor x = s.cursor x) : ReadMove s t
  /-- A hit, a collection or a discard: the slot is left EMPTY, the buffer as keep says (R98, R102, R112). -/
  | use (id : CursorId) (keep : Bool) (hslot : ∀ z, s.slot id ≠ .working z) :
      ReadMove s ((s.setSlot id .empty).setBuffer id ((s.buffer id).afterUse keep))
  /-- A miss (R99). -/
  | miss (id : CursorId) (z : AccessSize) (b : Word) (n : Nat) (hbound : (s.cursor id).state = .bound)
      (hbuffer : (s.buffer id).isWaiting = false) :
      ReadMove s
        (((s.setSlot id (.working z)).setBuffer id (.filling b n false .waiting)).setFillList (s.fillList ++ [id]))
  /-- A fill is retargeted (R100). -/
  | retarget (id : CursorId) (z : AccessSize) (b : Word) (n : Nat) {b' : Word} {n' : Nat} {void : Bool} {pos : FillPos}
      (hbound : (s.cursor id).state = .bound) (hslot : s.slot id = .empty)
      (hbuffer : s.buffer id = .filling b' n' void pos) :
      ReadMove s ((s.setSlot id (.working z)).setBuffer id (.filling b n void pos))
  /-- A write is posted and every buffer swept (R123, R124). -/
  | post (e : PostEntry) : ReadMove s ((s.setPostQueue (s.postQueue ++ [e])).sweep e)
  /-- Entries of the Post Queue change state or leave it (R127, R129). -/
  | shed (q : List PostEntry) (hq : ∀ e ∈ q, ∃ f ∈ s.postQueue, f.addr = e.addr ∧ f.size = e.size) :
      ReadMove s (s.setPostQueue q)
  /-- A fill clear of the Post Queue goes to memory (R105, R106). -/
  | grant (id : CursorId) {b : Word} {n : Nat} {void : Bool} (hbuffer : s.buffer id = .filling b n void .waiting)
      (hclear : ∀ e ∈ s.postQueue, e.overlaps b n = false) :
      ReadMove s
        ((s.setBuffer id (.filling b n false .inFlight)).setFillList (s.fillList.filter (fun x => decide (x ≠ id))))
  /-- A void fill arrives that a READ still waits for (R109). -/
  | requeue {id : CursorId} {b : Word} {n : Nat} {z : AccessSize} (hslot : s.slot id = .working z)
      (hbuffer : s.buffer id = .filling b n true .inFlight) :
      ReadMove s ((s.setBuffer id (.filling b n false .waiting)).setFillList (s.fillList ++ [id]))
  /-- A void fill arrives that no READ waits for (R109). -/
  | drop {id : CursorId} {b : Word} {n : Nat} (hslot : ∀ z, s.slot id ≠ .working z)
      (hbuffer : s.buffer id = .filling b n true .inFlight) : ReadMove s (s.setBuffer id .empty)
  /-- A fill that is not void arrives, with data (R107). -/
  | load {id : CursorId} {b : Word} {n : Nat} (data : List Byte) (bytes : AccessSize → List Byte)
      (hbuffer : s.buffer id = .filling b n false .inFlight) :
      ReadMove s ((s.setBuffer id (.valid b n data)).fillSlot id (fun z => .data (bytes z)))
  /-- A fill that is not void fails (R108). -/
  | fail {id : CursorId} {b : Word} {n : Nat} (r : ReadResult) (hbuffer : s.buffer id = .filling b n false .inFlight) :
      ReadMove s ((s.setBuffer id .empty).fillSlot id (fun _ => r))
  /-- The read path is reset (R173). -/
  | reset {t : State} (hslot : ∀ id, t.slot id = .empty) (hbuffer : ∀ id, t.buffer id = .empty)
      (hlist : t.fillList = []) (hqueue : t.postQueue = []) : ReadMove s t

/-- From s to t the read path makes moves, one after the other. -/
def State.ReadMoves : State → State → Prop := Relation.ReflTransGen State.ReadMove

/-- What every move keeps, any number of moves keeps. -/
theorem State.ReadMoves.keeps {P : State → Prop} (hP : ∀ u v : State, u.ReadMove v → P u → P v) {s t : State}
    (h : s.ReadMoves t) (hs : P s) : P t := by
  induction h with
  | refl => exact hs
  | tail _ hm ih => exact hP _ _ hm ih

/-! ### The buffer after each operation -/

@[simp] theorem Buffer.isWaiting_empty : Buffer.empty.isWaiting = false := rfl

@[simp] theorem Buffer.isWaiting_valid (b : Word) (n : Nat) (data : List Byte) :
    (Buffer.valid b n data).isWaiting = false := rfl

@[simp] theorem Buffer.isWaiting_filling (b : Word) (n : Nat) (v : Bool) (pos : FillPos) :
    (Buffer.filling b n v pos).isWaiting = decide (pos = .waiting) := by
  cases pos <;> rfl

@[simp] theorem Buffer.isWaiting_cancelled (b : Buffer) (k : Bool) : (b.cancelled k).isWaiting = false := by
  rcases b with - | ⟨b, n, v, - | -⟩ | ⟨b, n, data⟩ <;> cases k <;> rfl

@[simp] theorem Buffer.isWaiting_afterUse (b : Buffer) (keep : Bool) : (b.afterUse keep).isWaiting = b.isWaiting := by
  cases b <;> cases keep <;> rfl

@[simp] theorem Buffer.isWaiting_swept (b : Buffer) (e : PostEntry) : (b.swept e).isWaiting = b.isWaiting := by
  unfold Buffer.swept
  split
  · rfl
  · split <;> rfl
  · next pos => split <;> cases pos <;> rfl

/-- A VALID buffer stays VALID or goes, and a fill in flight is voided. -/
theorem Buffer.freshBlock_of_cancelled {b : Buffer} {k : Bool} {x : Word × Nat}
    (h : (b.cancelled k).freshBlock = some x) : b.freshBlock = some x := by
  rcases b with - | ⟨b, n, v, - | -⟩ | ⟨b, n, data⟩
  · cases h
  · cases h
  · cases h
  · cases k
    · cases h
    · exact h

theorem Buffer.freshBlock_of_afterUse {b : Buffer} {keep : Bool} {x : Word × Nat}
    (h : (b.afterUse keep).freshBlock = some x) : b.freshBlock = some x := by
  cases b with
  | empty => exact h
  | filling => exact h
  | valid =>
    cases keep
    · cases h
    · exact h

/-- A block that is fresh after the sweep was so before it, and the entry does not overlap it (R124). -/
theorem Buffer.freshBlock_of_swept {b : Buffer} {e : PostEntry} {a : Word} {n : Nat}
    (h : (b.swept e).freshBlock = some (a, n)) : b.freshBlock = some (a, n) ∧ e.overlaps a n = false := by
  cases b with
  | empty => cases h
  | valid b m data =>
    by_cases ho : e.overlaps b m = true
    · rw [Buffer.swept, if_pos ho] at h; cases h
    · rw [Buffer.swept, if_neg ho] at h
      cases h
      exact ⟨rfl, by simpa using ho⟩
  | filling b m v pos =>
    by_cases ho : e.overlaps b m = true
    · rw [Buffer.swept, if_pos ho] at h; cases h
    · rw [Buffer.swept, if_neg ho] at h
      refine ⟨h, ?_⟩
      cases v <;> cases pos <;> cases h
      simpa using ho

/-! ### The fill request list (R104) -/

section
variable {s t : State} (h : s.FillListExact)
include h

theorem State.FillListExact.same (hl : t.fillList = s.fillList)
    (hw : ∀ x, (t.buffer x).isWaiting = (s.buffer x).isWaiting) : t.FillListExact := by
  refine ⟨hl ▸ h.1, fun x => ?_⟩
  rw [hl, hw]
  exact h.2 x

/-- One buffer changes that neither begins nor ceases to wait. -/
theorem State.FillListExact.update {id : CursorId} (hl : t.fillList = s.fillList)
    (hid : (t.buffer id).isWaiting = (s.buffer id).isWaiting) (hrest : s.SameBuffersBut t id) : t.FillListExact :=
  h.same hl (fun x => by
    by_cases hx : x = id
    · rw [hx]; exact hid
    · rw [hrest x hx])

theorem State.FillListExact.filter {out : CursorId → Bool} (hl : t.fillList = s.fillList.filter (fun x => !out x))
    (hout : ∀ x, out x = true → (t.buffer x).isWaiting = false)
    (hrest : ∀ x, out x = false → t.buffer x = s.buffer x) : t.FillListExact := by
  refine ⟨hl ▸ h.1.filter _, fun x => ?_⟩
  rw [hl, List.mem_filter]
  cases hx : out x with
  | true => simp [hout x hx]
  | false => simp [hrest x hx, h.2 x]

theorem State.FillListExact.append {id : CursorId} (hl : t.fillList = s.fillList ++ [id])
    (hold : (s.buffer id).isWaiting = false) (hnew : (t.buffer id).isWaiting = true)
    (hrest : s.SameBuffersBut t id) : t.FillListExact := by
  have hout : id ∉ s.fillList := fun hmem => by rw [(h.2 id).1 hmem] at hold; cases hold
  refine ⟨?_, fun x => ?_⟩
  · rw [hl, ← List.concat_eq_append]
    exact h.1.concat hout
  · rw [hl, List.mem_append, List.mem_singleton]
    by_cases hx : x = id
    · simp [hx, hnew]
    · simp [hx, hrest x hx, h.2 x]

end

/-- A move keeps the fill list exact: a fill joins it when it becomes WAITING, and leaves it when it ceases to be. -/
theorem State.ReadMove.fillListExact {s t : State} (m : s.ReadMove t) (h : s.FillListExact) : t.FillListExact := by
  cases m with
  | aside ha => exact h.same ha.fillList (fun x => by rw [ha.buffer])
  | cancel hit k hslot hbuffer hlist hqueue hcursor =>
    exact h.filter hlist (fun x hx => by simp [hbuffer, hx]) (fun x hx => by simp [hbuffer, hx])
  | use id keep hslot => exact h.update (id := id) rfl (by simp) (fun x hx => by simp [hx])
  | miss id z b n hbound hbuffer => exact h.append rfl hbuffer (by simp) (fun x hx => by simp [hx])
  | retarget id z b n hbound hslot hbuffer =>
    refine h.update (id := id) rfl ?_ (fun x hx => by simp [hx])
    rw [hbuffer]
    simp only [State.buffer_setBuffer, if_true, Buffer.isWaiting_filling]
  | post e => exact h.same rfl (fun x => by simp)
  | shed q hq => exact h.same rfl (fun x => by simp)
  | grant id hbuffer hclear =>
    exact h.filter (out := fun x => decide (x = id)) (by simp) (fun x hx => by simp_all )
      (fun x hx => by simp_all)
  | requeue hslot hbuffer =>
    exact h.append rfl (by simp [hbuffer]) (by simp) (fun x hx => by simp [hx])
  | @drop id b n hslot hbuffer =>
    exact h.update (id := id) rfl (by simp [hbuffer]) (fun x hx => by simp [hx])
  | @load id b n data bytes hbuffer =>
    exact h.update (id := id) (by simp) (by simp [hbuffer]) (fun x hx => by simp [hx])
  | @fail id b n r hbuffer =>
    exact h.update (id := id) (by simp) (by simp [hbuffer]) (fun x hx => by simp [hx])
  | reset hslot hbuffer hlist hqueue => exact ⟨by simp [hlist], by simp [hlist, hbuffer]⟩

/-! ### Busy slots (R94) -/

/-- A result empties no slot and fills none. -/
theorem State.slot_fillSlot_eq_empty (s : State) (id x : CursorId) (r : AccessSize → ReadResult) :
    (s.fillSlot id r).slot x = .empty ↔ s.slot x = .empty := by
  unfold State.fillSlot
  split
  · next z hz =>
    by_cases hx : x = id
    · subst hx; simp [hz]
    · simp [hx]
  · rfl

theorem State.SlotsOnBound.mono {s t : State} (h : s.SlotsOnBound)
    (hslot : ∀ x, s.slot x = .empty → t.slot x = .empty) (hcursor : ∀ x, t.cursor x = s.cursor x) :
    t.SlotsOnBound := fun x hx => by
  rw [hcursor]
  exact h x (fun he => hx (hslot x he))

/-- A READ makes the slot of a BOUND cursor busy. -/
theorem State.SlotsOnBound.setSlot {s t : State} (h : s.SlotsOnBound) {id : CursorId}
    (hbound : (s.cursor id).state = .bound) (hslot : s.SameSlotsBut t id)
    (hcursor : ∀ x, t.cursor x = s.cursor x) : t.SlotsOnBound := fun x hx => by
  rw [hcursor]
  by_cases hid : x = id
  · rw [hid]; exact hbound
  · exact h x (hslot x hid ▸ hx)

theorem State.ReadMove.slotsOnBound {s t : State} (m : s.ReadMove t) (h : s.SlotsOnBound) : t.SlotsOnBound := by
  cases m with
  | aside ha =>
    intro x hx
    rw [ha.slot] at hx
    exact ha.bound x hx (h x hx)
  | cancel hit k hslot hbuffer hlist hqueue hcursor =>
    intro x hx
    cases hh : hit x with
    | true => simp [hslot, hh] at hx
    | false =>
      rw [hcursor x hh]
      exact h x (by simpa [hslot, hh] using hx)
  | use id keep hslot => exact h.mono (fun x hx => by simp [hx]) (fun _ => rfl)
  | miss id z b n hbound hbuffer => exact h.setSlot hbound (fun x hx => by simp [hx]) (fun _ => rfl)
  | retarget id z b n hbound hslot hbuffer => exact h.setSlot hbound (fun x hx => by simp [hx]) (fun _ => rfl)
  | post e => exact h
  | shed q hq => exact h
  | grant id hbuffer hclear => exact h
  | requeue hslot hbuffer => exact h
  | drop hslot hbuffer => exact h
  | load data bytes hbuffer =>
    exact h.mono (fun x hx => (State.slot_fillSlot_eq_empty _ _ _ _).2 hx) (fun x => by simp)
  | fail r hbuffer => exact h.mono (fun x hx => (State.slot_fillSlot_eq_empty _ _ _ _).2 hx) (fun x => by simp)
  | reset hslot hbuffer hlist hqueue => exact fun x hx => absurd (hslot x) hx

/-! ### Slot and buffer (R95) -/

theorem slotBufferOk_cancelled (b : Buffer) (k : Bool) : slotBufferOk .empty (b.cancelled k) := by
  rcases b with - | ⟨b, n, v, - | -⟩ | ⟨b, n, data⟩ <;> cases k <;> simp [Buffer.cancelled, slotBufferOk]

theorem slotBufferOk.afterUse {x : Slot} {b : Buffer} (h : slotBufferOk x b) (hx : ∀ z, x ≠ .working z)
    (keep : Bool) : slotBufferOk .empty (b.afterUse keep) := by
  cases b with
  | empty => trivial
  | valid => cases keep <;> trivial
  | filling =>
    cases x with
    | empty => exact h
    | working z => exact absurd rfl (hx z)
    | ready => cases h

theorem slotBufferOk.swept {x : Slot} {b : Buffer} (h : slotBufferOk x b) (e : PostEntry) :
    slotBufferOk x (b.swept e) := by
  cases b with
  | empty => exact h
  | valid b n data =>
    by_cases ho : e.overlaps b n = true
    · rw [Buffer.swept, if_pos ho]
      cases x with
      | empty => trivial
      | working => exact h
      | ready => trivial
    · rwa [Buffer.swept, if_neg ho]
  | filling b n v pos =>
    by_cases ho : e.overlaps b n = true
    · rw [Buffer.swept, if_pos ho]
      cases x with
      | empty => exact ⟨rfl, h.2⟩
      | working => trivial
      | ready => exact h
    · rwa [Buffer.swept, if_neg ho]

/-- A fill that a READ waits for: the slot of a fill that is not void is WORKING. -/
theorem slotBufferOk.working_of_live {x : Slot} {b : Word} {n : Nat} {pos : FillPos}
    (h : slotBufferOk x (.filling b n false pos)) : ∃ z, x = .working z := by
  cases x with
  | empty => cases h.1
  | working z => exact ⟨z, rfl⟩
  | ready => cases h

theorem slotBufferOk.working_of_waiting {x : Slot} {b : Word} {n : Nat} {v : Bool}
    (h : slotBufferOk x (.filling b n v .waiting)) : ∃ z, x = .working z := by
  cases x with
  | empty => cases h.2
  | working z => exact ⟨z, rfl⟩
  | ready => cases h

/-- One cursor's slot and buffer change, to a combination of R95. -/
theorem State.SlotsMatchBuffers.update {s t : State} (h : s.SlotsMatchBuffers) {id : CursorId}
    (hid : slotBufferOk (t.slot id) (t.buffer id)) (hslot : s.SameSlotsBut t id) (hbuffer : s.SameBuffersBut t id) :
    t.SlotsMatchBuffers := fun x => by
  by_cases hx : x = id
  · rw [hx]; exact hid
  · rw [hslot x hx, hbuffer x hx]; exact h x

theorem State.slot_fillSlot_ne (s : State) {id x : CursorId} (r : AccessSize → ReadResult) (hx : x ≠ id) :
    (s.fillSlot id r).slot x = s.slot x := by
  unfold State.fillSlot
  split
  · simp [hx]
  · rfl

theorem State.slot_fillSlot_of_working {s : State} {id : CursorId} {z : AccessSize} (r : AccessSize → ReadResult)
    (hz : s.slot id = .working z) : (s.fillSlot id r).slot id = .ready z (r z) (s.port id.port).interval := by
  simp [State.fillSlot, hz]

theorem State.ReadMove.slotsMatchBuffers {s t : State} (m : s.ReadMove t) (h : s.SlotsMatchBuffers) :
    t.SlotsMatchBuffers := by
  cases m with
  | aside ha => intro x; rw [ha.slot, ha.buffer]; exact h x
  | cancel hit k hslot hbuffer hlist hqueue hcursor =>
    intro x
    rw [hslot, hbuffer]
    split
    · exact slotBufferOk_cancelled _ k
    · exact h x
  | use id keep hslot =>
    refine h.update (id := id) ?_ (fun x hx => by simp [hx]) (fun x hx => by simp [hx])
    simpa using (h id).afterUse hslot keep
  | miss id z b n hbound hbuffer =>
    exact h.update (id := id) (by simp [slotBufferOk]) (fun x hx => by simp [hx]) (fun x hx => by simp [hx])
  | retarget id z b n hbound hslot hbuffer =>
    exact h.update (id := id) (by simp [slotBufferOk]) (fun x hx => by simp [hx]) (fun x hx => by simp [hx])
  | post e => intro x; rw [State.buffer_sweep]; exact (h x).swept e
  | shed q hq => exact h
  | grant id hbuffer hclear =>
    obtain ⟨z, hz⟩ := (hbuffer ▸ h id).working_of_waiting
    exact h.update (id := id) (by simp [slotBufferOk, hz]) (fun x hx => rfl) (fun x hx => by simp [hx])
  | @requeue id b n z hslot hbuffer =>
    exact h.update (id := id) (by simp [slotBufferOk, hslot]) (fun x hx => rfl) (fun x hx => by simp [hx])
  | @drop id b n hslot hbuffer =>
    refine h.update (id := id) ?_ (fun x hx => rfl) (fun x hx => by simp [hx])
    cases hs : s.slot id with
    | working z => exact absurd hs (hslot z)
    | empty => simp [slotBufferOk, hs]
    | ready => simp [slotBufferOk, hs]
  | @load id b n data bytes hbuffer =>
    obtain ⟨z, hz⟩ := (hbuffer ▸ h id).working_of_live
    refine h.update (id := id) ?_ (fun x hx => State.slot_fillSlot_ne _ _ hx) (fun x hx => by simp [hx])
    have hz' : (s.setBuffer id (.valid b n data)).slot id = .working z := hz
    rw [State.slot_fillSlot_of_working _ hz']
    simp [slotBufferOk]
  | @fail id b n r hbuffer =>
    obtain ⟨z, hz⟩ := (hbuffer ▸ h id).working_of_live
    refine h.update (id := id) ?_ (fun x hx => State.slot_fillSlot_ne _ _ hx) (fun x hx => by simp [hx])
    have hz' : (s.setBuffer id .empty).slot id = .working z := hz
    rw [State.slot_fillSlot_of_working _ hz']
    simp [slotBufferOk]
  | reset hslot hbuffer hlist hqueue => intro x; rw [hslot, hbuffer]; trivial

/-! ### Buffers and the Post Queue (R110) -/

theorem PostEntry.overlaps_congr {e f : PostEntry} (ha : f.addr = e.addr) (hz : f.size = e.size) (b : Word) (n : Nat) :
    e.overlaps b n = f.overlaps b n := by
  unfold PostEntry.overlaps
  rw [ha, hz]

/-- Nothing new is fresh, and nothing new is posted. -/
theorem State.BuffersCurrent.mono {s t : State} (h : s.BuffersCurrent) (hq : t.postQueue = s.postQueue)
    (hfresh : ∀ x y, (t.buffer x).freshBlock = some y → (s.buffer x).freshBlock = some y) : t.BuffersCurrent :=
  fun x b n hx e he => h x b n (hfresh x _ hx) e (hq ▸ he)

/-- One buffer changes, to one whose block, if fresh, is clear of the Post Queue. -/
theorem State.BuffersCurrent.update {s t : State} (h : s.BuffersCurrent) {id : CursorId}
    (hq : t.postQueue = s.postQueue) (hbuffer : s.SameBuffersBut t id)
    (hid : ∀ b n, (t.buffer id).freshBlock = some (b, n) → ∀ e ∈ s.postQueue, e.overlaps b n = false) :
    t.BuffersCurrent := fun x b n hx e he => by
  by_cases hid' : x = id
  · subst hid'; exact hid b n hx e (hq ▸ he)
  · exact h x b n (hbuffer x hid' ▸ hx) e (hq ▸ he)

theorem State.ReadMove.buffersCurrent {s t : State} (m : s.ReadMove t) (hm : s.SlotsMatchBuffers)
    (h : s.BuffersCurrent) : t.BuffersCurrent := by
  cases m with
  | aside ha => exact h.mono ha.postQueue (fun x y hx => by rwa [ha.buffer] at hx)
  | cancel hit k hslot hbuffer hlist hqueue hcursor =>
    refine h.mono hqueue (fun x y hx => ?_)
    rw [hbuffer] at hx
    split at hx
    · exact Buffer.freshBlock_of_cancelled hx
    · exact hx
  | use id keep hslot =>
    refine h.update (id := id) rfl (fun x hx => by simp [hx]) (fun b n hb => h id b n ?_)
    exact Buffer.freshBlock_of_afterUse (by simpa using hb)
  | miss id z b n hbound hbuffer =>
    exact h.update (id := id) rfl (fun x hx => by simp [hx]) (fun _ _ hb => by simp [Buffer.freshBlock] at hb)
  | retarget id z b n hbound hslot hbuffer =>
    have hvoid := hm id
    rw [hslot, hbuffer] at hvoid
    exact h.update (id := id) rfl (fun x hx => by simp [hx])
      (fun _ _ hb => by simp [Buffer.freshBlock, hvoid.1] at hb)
  | post e =>
    intro x b n hx f hf
    rw [State.buffer_sweep] at hx
    obtain ⟨hfresh, hclear⟩ := Buffer.freshBlock_of_swept hx
    rcases List.mem_append.1 hf with hf | hf
    · exact h x b n hfresh f hf
    · rw [List.mem_singleton.1 hf]; exact hclear
  | shed q hq =>
    intro x b n hx e he
    obtain ⟨f, hf, haddr, hsize⟩ := hq e he
    rw [PostEntry.overlaps_congr haddr hsize]
    exact h x b n hx f hf
  | grant id hbuffer hclear =>
    refine h.update (id := id) rfl (fun x hx => by simp [hx]) (fun b n hb => ?_)
    obtain ⟨rfl, rfl⟩ : _ = b ∧ _ = n := by simpa [Buffer.freshBlock] using hb
    exact hclear
  | @requeue id b n z hslot hbuffer =>
    exact h.update (id := id) rfl (fun x hx => by simp [hx]) (fun _ _ hb => by simp [Buffer.freshBlock] at hb)
  | @drop id b n hslot hbuffer =>
    exact h.update (id := id) rfl (fun x hx => by simp [hx]) (fun _ _ hb => by simp [Buffer.freshBlock] at hb)
  | @load id b n data bytes hbuffer =>
    refine h.update (id := id) (by simp) (fun x hx => by simp [hx]) (fun b' n' hb => ?_)
    obtain ⟨rfl, rfl⟩ : b = b' ∧ n = n' := by simpa [Buffer.freshBlock] using hb
    exact h id b n (by rw [hbuffer]; rfl)
  | @fail id b n r hbuffer =>
    exact h.update (id := id) (by simp) (fun x hx => by simp [hx]) (fun _ _ hb => by simp [Buffer.freshBlock] at hb)
  | reset hslot hbuffer hlist hqueue => exact fun x b n hx => by rw [hbuffer] at hx; cases hx

end Sys2Proof.Machine
end

section
/-! ## What each command does to the read path

One lemma for each operation that reaches slots, buffers, fill list or Post Queue, and for a command as a whole. -/

namespace Sys2Proof.Machine

/-! ### What leaves the read path alone -/

section
variable {s t : State} {parts : List Part}

theorem State.LeavesReadPath.of_onlyChanges (ho : s.OnlyChanges t parts)
    (hparts : ∀ q ∈ [Part.slots, .buffers, .fillList, .postQueue], q ∉ parts)
    (hbound : ∀ id, s.slot id ≠ .empty → (s.cursor id).state = .bound → (t.cursor id).state = .bound) :
    s.LeavesReadPath t where
  slot id := congrArg (Grid.get · id) (ho .slots (hparts _ (by simp)))
  buffer id := congrArg (Grid.get · id) (ho .buffers (hparts _ (by simp)))
  fillList := ho .fillList (hparts _ (by simp))
  postQueue := ho .postQueue (hparts _ (by simp))
  bound := hbound

/-- A cursor with an EMPTY slot, or one that is not BOUND, may be rewritten. -/
theorem State.LeavesReadPath.of_cursor {id : CursorId} (ho : s.OnlyChanges t parts)
    (hparts : ∀ q ∈ [Part.slots, .buffers, .fillList, .postQueue], q ∉ parts) (hcursor : s.SameCursorsBut t id)
    (hid : s.slot id = .empty ∨ (s.cursor id).state ≠ .bound) : s.LeavesReadPath t :=
  .of_onlyChanges ho hparts (fun x hx hb => by
    by_cases hxid : x = id
    · subst hxid
      rcases hid with he | hn
      · exact absurd he hx
      · exact absurd hb hn
    · rw [hcursor x hxid]; exact hb)

end

namespace State.ReadMoves

variable {s t u : State}

theorem refl (s : State) : s.ReadMoves s := Relation.ReflTransGen.refl

theorem single (m : s.ReadMove t) : s.ReadMoves t := Relation.ReflTransGen.single m

theorem tail (h : s.ReadMoves t) (m : t.ReadMove u) : s.ReadMoves u := Relation.ReflTransGen.tail h m

theorem trans (h : s.ReadMoves t) (g : t.ReadMoves u) : s.ReadMoves u := Relation.ReflTransGen.trans h g

theorem aside (h : s.ReadMoves t) (ha : t.LeavesReadPath u) : s.ReadMoves u := h.tail (.aside ha)

/-- What changes neither the read path nor the cursors. -/
theorem elsewhere {parts : List Part} (h : s.ReadMoves t) (ho : t.OnlyChanges u parts)
    (hparts : ∀ q ∈ [Part.slots, .buffers, .fillList, .postQueue, .cursors], q ∉ parts) : s.ReadMoves u :=
  h.aside (.of_onlyChanges ho (fun q hq => hparts q (List.mem_append_left [Part.cursors] hq)) (fun x _ hb => by
    rwa [State.cursor, show u.cursors = t.cursors from ho .cursors (hparts _ (by simp))]))

/-- An advance of a cursor whose slot is EMPTY. -/
theorem advance (h : s.ReadMoves t) {id : CursorId} (hslot : t.slot id = .empty) (S : Seg) (m : Nat) :
    s.ReadMoves (t.advance id S m) :=
  h.aside (.of_cursor (t.onlyChanges_advance id S m) (by decide) (t.advanced_advance id S m).1 (.inl hslot))

end State.ReadMoves

theorem State.OnlyChanges.readMoves {s t : State} {parts : List Part} (ho : s.OnlyChanges t parts)
    (hparts : ∀ q ∈ [Part.slots, .buffers, .fillList, .postQueue, .cursors], q ∉ parts) : s.ReadMoves t :=
  (State.ReadMoves.refl s).elsewhere ho hparts

/-! ### Requests of cursors -/

section
variable (s : State) (id : CursorId)

theorem State.readMoves_openBody (S : Seg) (offset : Word) (stride : BitVec 16) (expected : Option (BitVec 8)) :
    s.ReadMoves (openBody id S offset stride expected s).1 := by
  have hopen : ∀ c, (s.cursor id).state ≠ .bound → s.ReadMoves ((s.setCursor id c).joinQueue id) := fun c hb =>
    (State.ReadMoves.refl s).aside (.of_cursor
      ((s.onlyChanges_setCursor id c).trans (State.onlyChanges_joinQueue _ id)) (by decide)
      (fun x hx => by simp [hx]) (.inr hb))
  unfold openBody
  dsimp only
  split
  · next hs => exact hopen _ (by simp [hs])
  · next hs => exact hopen _ (by simp [hs])
  · exact .refl s

theorem State.readMoves_closeCursor : s.ReadMoves (s.closeCursor id) := by
  by_cases hc : (s.cursor id).state = .closed
  · rw [State.closeCursor_of_closed s id hc]; exact .refl s
  · rw [State.closeCursor_of_open s id hc]
    exact .single (.cancel (fun x => decide (x = id)) false (by simp) (fun x => by by_cases hx : x = id <;> simp [hx])
      (by simp) (by simp) (by simp +contextual))

theorem State.readMoves_seekTaken (offset : Word) (stride : Option (BitVec 16)) (n : Nat) :
    s.ReadMoves (seekTaken id offset stride n s).1 :=
  .single (.cancel (fun x => decide (x = id)) true (by simp [seekTaken])
    (fun x => by by_cases hx : x = id <;> simp [seekTaken, hx]) (by simp [seekTaken]) (by simp [seekTaken])
    (by simp +contextual [seekTaken]))

theorem State.readMoves_seekBody (offset : Word) (stride : Option (BitVec 16)) :
    s.ReadMoves (seekBody id offset stride s).1 := by
  have hheld : ((s.cursor id).state = .bound ∨ ∃ e, (s.cursor id).state = .exhausted e) →
      s.ReadMoves (seekBody id offset stride s).1 := by
    intro hst
    cases hseg : (s.cursor id).segment with
    | none => rw [seekBody_noSegment hst hseg]; exact .refl s
    | some S =>
      by_cases hin : offset.toNat < (s.desc S).length
      · rw [seekBody_taken hst hseg hin]; exact s.readMoves_seekTaken ..
      · rw [seekBody_outOfRange hst hseg (Nat.not_lt.1 hin)]; exact .refl s
  cases hst : (s.cursor id).state with
  | closed => rw [seekBody_closed hst]; exact .refl s
  | faulted => rw [seekBody_faulted hst]; exact .refl s
  | binding => rw [seekBody_mapping (by rw [hst]; rfl)]; exact .refl s
  | crossing => rw [seekBody_mapping (by rw [hst]; rfl)]; exact .refl s
  | revalidating => rw [seekBody_mapping (by rw [hst]; rfl)]; exact .refl s
  | bound => exact hheld (.inl hst)
  | exhausted e => exact hheld (.inr ⟨e, hst⟩)

end

/-! ### READ and WRITE -/

theorem Buffer.afterUse_keep (b : Buffer) : b.afterUse true = b := by
  cases b <;> rfl

section
variable {s : State} {id : CursorId} {z : AccessSize} (S : Seg)

theorem State.readMoves_readHit (hslot : s.slot id = .empty) (bytes : List Byte) :
    s.ReadMoves (readHit id S z bytes s).1 := by
  have hused : s.ReadMoves (s.setBuffer id ((s.buffer id).afterUse (s.desc S).keep)) :=
    (State.ReadMoves.single (.use id (s.desc S).keep (by simp [hslot]))).aside
      ⟨fun x => by by_cases hx : x = id <;> simp [hx, hslot], fun _ => rfl, rfl, rfl, fun _ _ hb => hb⟩
  exact hused.advance hslot S 1

theorem State.readMoves_readCollect {y : AccessSize} {r : ReadResult} {i : Interval}
    (hslot : s.slot id = .ready y r i) : s.ReadMoves (readCollect id S z r s).1 := by
  have hused : ∀ keep, s.ReadMoves ((s.collectSlot id).setBuffer id ((s.buffer id).afterUse keep)) := fun keep =>
    (State.ReadMoves.single (.use id keep (by simp [hslot]))).aside
      ⟨fun _ => rfl, fun _ => rfl, rfl, rfl, fun _ _ hb => hb⟩
  have hfailed : s.ReadMoves (s.collectSlot id) :=
    (hused true).aside ⟨fun _ => rfl,
      fun x => by by_cases hx : x = id <;> simp [hx, Buffer.afterUse_keep, State.collectSlot], rfl, rfl,
      fun _ _ hb => hb⟩
  cases r with
  | data bytes => exact (hused _).advance (by simp [State.collectSlot]) S 1
  | memoryError => exact hfailed
  | memoryTimeout => exact hfailed

variable (hbound : (s.cursor id).state = .bound)
include hbound

theorem State.readMoves_readAhead : s.ReadMoves (readAhead id S z s).1 := by
  cases hslot : s.slot id with
  | empty =>
    cases hbuffer : s.buffer id with
    | empty =>
      rw [readAhead_miss hslot (.inl hbuffer)]
      exact .single (.miss id z _ _ hbound (by simp [hbuffer]))
    | valid b n data =>
      cases hin : inside (physical (s.desc S) (s.cursor id)) z.bytes b n with
      | true => rw [readAhead_hit hslot hbuffer hin]; exact State.readMoves_readHit S hslot _
      | false =>
        rw [readAhead_miss hslot (.inr ⟨b, n, data, hbuffer, hin⟩)]
        exact .single (.miss id z _ _ hbound (by simp [hbuffer]))
    | filling =>
      rw [readAhead_retarget hslot hbuffer]
      exact .single (.retarget id z _ _ hbound hslot hbuffer)
  | working y =>
    by_cases hy : y = z
    · subst hy; rw [readAhead_again hslot]; exact .refl s
    · rw [readAhead_mismatch hy (.inl hslot)]; exact .refl s
  | ready y r i =>
    by_cases hy : y = z
    · subst hy; rw [readAhead_collect hslot]; exact State.readMoves_readCollect S hslot
    · rw [readAhead_mismatch hy (.inr ⟨r, i, hslot⟩)]; exact .refl s

end

section
variable (s : State) (id : CursorId) (z : AccessSize)

theorem State.readMoves_readBody : s.ReadMoves (readBody id z s).1 := by
  unfold readBody
  split
  · exact .refl s
  · next S hp =>
    obtain ⟨hbound, -⟩ := passes_of_accessCheck hp
    exact State.readMoves_readAhead S hbound

theorem State.readMoves_writeBody (data : List Word) : s.ReadMoves (writeBody id z data s).1 := by
  unfold writeBody
  split
  · exact .refl s
  · next S _ =>
    split
    · exact .refl s
    · split
      · exact .refl s
      · next hslot =>
        split
        · exact .refl s
        · exact (State.ReadMoves.single (.post _)).advance (not_not.1 hslot) S 1

end

/-! ### Requests of the stack -/

section
variable (s : State) (id : CursorId)

theorem State.readMoves_pushHeld (S : Seg) (side : Option Side) (mark : Mark) :
    s.ReadMoves (pushHeld id S side mark s).1 := by
  unfold pushHeld
  dsimp only
  split
  · exact .refl s
  · exact ((s.onlyChanges_setStack id.port _).trans (State.onlyChanges_claim _ S)).readMoves (by decide)

theorem State.readMoves_pushBody : s.ReadMoves (pushBody id s).1 := by
  unfold pushBody
  split
  · exact s.readMoves_pushHeld ..
  · exact s.readMoves_pushHeld ..
  · exact s.readMoves_pushHeld ..
  · exact .refl s

theorem State.readMoves_popClear : s.ReadMoves (s.popClear id) :=
  .single (.cancel (fun x => decide (x = id)) false (by simp [State.popClear])
    (fun x => by by_cases hx : x = id <;> simp [State.popClear, hx]) (by simp [State.popClear])
    (by simp [State.popClear]) (by simp))

theorem State.onlyChanges_restore (x : Context) (k : Nat) :
    s.OnlyChanges (s.restore id x k) [.cursors, .dt, .notices, .mapQueues, .freeCount] := by
  by_cases hm : x.mark = .valid
  · exact ((s.onlyChanges_setCursor id _).trans (State.onlyChanges_restore_of_valid hm k)).mono (by decide)
  · exact (s.onlyChanges_restore_of_not_valid id k hm).mono (by decide)

theorem State.sameCursorsBut_restore (x : Context) (k : Nat) : s.SameCursorsBut (s.restore id x k) id := by
  by_cases hm : x.mark = .valid
  · intro y hy
    rw [State.restore_of_valid hm]
    split
    · simp [hy]
    · rw [(State.advanced_advance _ id x.segment k).1 y hy]; simp [hy]
  · exact s.sameCursorsBut_restore_of_not_valid id k hm

theorem State.readMoves_popBody (k : Nat) : s.ReadMoves (popBody id k s).1 := by
  unfold popBody
  split
  · exact .refl s
  · split
    · exact .refl s
    · next x rest _ =>
      have hcleared := (s.readMoves_popClear id).elsewhere (State.onlyChanges_setStack _ id.port rest) (by decide)
      exact hcleared.aside (.of_cursor (State.onlyChanges_restore _ id x k) (by decide)
        (State.sameCursorsBut_restore _ id x k) (.inl (by simp [State.popClear])))

theorem State.readMoves_dropBody (p : Port) : s.ReadMoves (dropBody p s).1 := by
  unfold dropBody
  split
  · exact .refl s
  · exact ((s.onlyChanges_setStack p _).trans (State.onlyChanges_letGo _ _)).readMoves (by decide)

end

/-! ### COMMIT and RETIRE -/

section
variable (s : State)

theorem State.readMoves_broadcastReplace (S : Seg) : s.ReadMoves (s.broadcastReplace S) :=
  .single (.cancel (fun x => (s.cursor x).replacedBy S) false (by simp) (by simp) (by simp) (by simp)
    (fun x hx => by simp [hx]))

theorem State.readMoves_broadcastRevoke (S : Seg) : s.ReadMoves (s.broadcastRevoke S) :=
  .single (.cancel (fun x => (s.cursor x).holds S) false (by simp) (by simp) (by simp) (by simp)
    (fun x hx => by simp [Cursor.revoked, hx]))

theorem State.readMoves_commitBody (p : Port) (S : Seg) : s.ReadMoves (commitBody p S s).1 := by
  have hdone : ∀ d, s.ReadMoves (commitDone p S d s).1 := fun d =>
    (s.onlyChanges_commitDone p S d).readMoves (by decide)
  unfold commitBody
  dsimp only
  split
  · exact .refl s
  · split
    · exact .refl s
    · split
      · exact .refl s
      · split
        · exact .refl s
        · exact hdone _
    · split
      · exact .refl s
      · exact (hdone _).trans (State.readMoves_broadcastReplace _ S)

theorem State.readMoves_forceRetire (S : Seg) : s.ReadMoves (s.forceRetire S) :=
  (s.readMoves_broadcastRevoke S).elsewhere
    (((State.onlyChanges_notifyAllRevoked _ s S).trans (State.onlyChanges_notifyForced _ S _)).trans
      (State.onlyChanges_setDesc _ S _)) (by decide)

theorem State.readMoves_retireBody (p : Port) (forced : Bool) (S : Seg) : s.ReadMoves (retireBody p forced S s).1 := by
  have hdesc : ∀ d, s.ReadMoves (s.setDesc S d) := fun d =>
    (s.onlyChanges_setDesc S d).readMoves (by decide)
  unfold retireBody
  dsimp only
  split
  · exact .refl s
  · split
    · exact hdesc _
    · split
      · exact s.readMoves_forceRetire S
      · exact hdesc _
  · split
    · exact s.readMoves_forceRetire S
    · exact .refl s

/-! ### The port requests and the resets -/

theorem State.onlyChanges_setNotices (p : Port) (q : NoticeQueue) : s.OnlyChanges (s.setNotices p q) [.notices] := by
  intro r hr
  cases r <;> simp_all [State.agree]

theorem State.readMoves_setPort (p : Port) (r : PortRec) : s.ReadMoves (s.setPort p r) :=
  (s.onlyChanges_setPort p r).readMoves (by decide)

theorem State.readMoves_fetchBody (p : Port) : s.ReadMoves (fetchBody p s).1 := by
  have hset : ∀ q, s.ReadMoves (s.setNotices p q) := fun q =>
    (s.onlyChanges_setNotices p q).readMoves (by decide)
  unfold fetchBody
  dsimp only
  split
  · exact hset _
  · exact hset _

theorem State.readMoves_setPortBody (q : Port) (a : Option Authority) (pr : Option Priority) (n : Option Nat)
    (i : Option Interval) : s.ReadMoves (setPortBody q a pr n i s).1 := by
  unfold setPortBody
  dsimp only
  split
  · exact .refl s
  · exact s.readMoves_setPort ..

theorem State.readMoves_releasePortBody (q : Port) : s.ReadMoves (releasePortBody q s).1 := by
  unfold releasePortBody
  split
  · exact .refl s
  · exact (s.readMoves_setPort ..).elsewhere (State.onlyChanges_notify _ _ _) (by decide)

/-- A port reset closes its cursors one after the other; its other steps leave the read path alone (R170). -/
theorem State.readMoves_resetPort (q : Port) : s.ReadMoves (s.resetPort q) := by
  have hnotices : s.ReadMoves (s.setNotices q ⟨[], false⟩) :=
    (s.onlyChanges_setNotices q _).readMoves (by decide)
  have hcursors : s.ReadMoves ((s.setNotices q ⟨[], false⟩).resetCursors q) :=
    List.foldlRecOn (motive := fun u : State => s.ReadMoves u) allCursorNos _ hnotices
      (fun u hu c _ => hu.trans (u.readMoves_closeCursor ⟨q, c⟩))
  have hstack : s.ReadMoves (((s.setNotices q ⟨[], false⟩).resetCursors q).resetStack q) :=
    List.foldlRecOn (motive := fun u : State => s.ReadMoves u) _ _
      (hcursors.elsewhere (State.onlyChanges_setStack _ q []) (by decide))
      (fun u hu x _ => hu.elsewhere (u.onlyChanges_letGo x) (by decide))
  exact hstack.trans (State.readMoves_setPort ..)

/-! ### The placement service -/

/-- A BOUND cursor is in no map queue, and its placement changes nothing. -/
theorem State.place_of_bound {s : State} {id : CursorId} (h : (s.cursor id).state = .bound) : s.place id = s := by
  simp [State.place, h]

theorem State.leavesReadPath_place (id : CursorId) : s.LeavesReadPath (s.place id) := by
  refine .of_onlyChanges (s.onlyChanges_place id) (by decide) (fun x _ hb => ?_)
  by_cases hx : x = id
  · subst hx; rw [State.place_of_bound hb]; exact hb
  · rw [State.cursor_place_ne s hx]; exact hb

theorem State.readMoves_serveEntry (p : Port) (level : Priority) : s.ReadMoves (s.serveEntry p level) := by
  unfold State.serveEntry
  split
  · exact .refl s
  · next c rest _ =>
    have hpopped :=
      ((s.onlyChanges_setMapQueue p rest).trans (State.onlyChanges_setMark _ level p)).readMoves (by decide)
    exact hpopped.aside (State.leavesReadPath_place _ ⟨p, c⟩)

end

/-! ### Grants (R105, R106, R127) -/

/-- A fill is eligible when it waits and no Post Queue entry overlaps its block (R105). -/
theorem State.fillEligible_iff (s : State) (id : CursorId) :
    s.fillEligible id = true ↔
      ∃ b n v, s.buffer id = .filling b n v .waiting ∧ ∀ e ∈ s.postQueue, e.overlaps b n = false := by
  unfold State.fillEligible
  split
  · next b n v hb => simp [hb]
  · next hb =>
    simp only [Bool.false_eq_true, false_iff]
    rintro ⟨b, n, v, h, -⟩
    exact hb b n v h

/-- An issue changes no entry's bytes. -/
theorem mem_issueOldest {n : TagNo} {q : List PostEntry} {e : PostEntry} (h : e ∈ issueOldest n q) :
    ∃ f ∈ q, f.addr = e.addr ∧ f.size = e.size := by
  induction q with
  | nil => cases h
  | cons x rest ih =>
    rw [issueOldest] at h
    split at h
    · rcases List.mem_cons.1 h with rfl | hm
      · exact ⟨x, List.mem_cons_self .., rfl, rfl⟩
      · exact ⟨e, List.mem_cons_of_mem _ hm, rfl, rfl⟩
    · rcases List.mem_cons.1 h with rfl | hm
      · exact ⟨e, List.mem_cons_self .., rfl, rfl⟩
      · obtain ⟨f, hf, hfe⟩ := ih hm
        exact ⟨f, List.mem_cons_of_mem _ hf, hfe⟩

section
variable {s : State} (n : TagNo)

theorem State.readMoves_grantFill {id : CursorId} (h : s.fillCandidate = some id) : s.ReadMoves (s.grantFill n id) := by
  obtain ⟨b, size, v, hbuffer, hclear⟩ := (s.fillEligible_iff id).1 (List.find?_some h)
  rw [State.grantFill, hbuffer]
  exact (State.ReadMoves.single (.grant id hbuffer hclear)).aside
    ⟨fun _ => rfl, fun _ => rfl, rfl, rfl, fun _ _ hb => hb⟩

theorem State.readMoves_grantWrite (e : PostEntry) : s.ReadMoves (s.grantWrite n e) :=
  (State.ReadMoves.single (.shed (issueOldest n s.postQueue) (fun _ => mem_issueOldest))).aside
    ⟨fun _ => rfl, fun _ => rfl, rfl, rfl, fun _ _ hb => hb⟩

theorem State.readMoves_grantTo : s.ReadMoves (s.grantTo n) := by
  unfold State.grantTo
  split
  · exact .refl s
  · next h _ => exact State.readMoves_grantFill n h
  · exact State.readMoves_grantWrite n _
  · next h _ =>
    split
    · exact State.readMoves_grantFill n h
    · exact State.readMoves_grantWrite n _

end

/-! ### Deliveries and responses (R107 to R109, R129) -/

section
variable (s : State)

theorem State.readMoves_fillArrival (id : CursorId) (d : Delivery) : s.ReadMoves (s.fillArrival id d) := by
  unfold State.fillArrival
  split
  · next b n hbuffer =>
    unfold State.voidArrival
    split
    · next z hslot => exact .single (.requeue hslot hbuffer)
    · next hslot => exact .single (.drop hslot hbuffer)
  · next b n hbuffer =>
    cases d with
    | ok beats => exact .single (.load _ _ hbuffer)
    | error => exact .single (.fail _ hbuffer)
    | timeout => exact .single (.fail _ hbuffer)
  · exact .refl s

theorem State.readMoves_writeCompletion (n : TagNo) (d : Delivery) : s.ReadMoves (s.writeCompletion n d) := by
  unfold State.writeCompletion
  split
  · exact .refl s
  · next e _ =>
    have hleft : s.ReadMoves (s.setPostQueue (s.postQueue.filter (fun x => decide (x.state ≠ .issued n)))) :=
      .single (.shed _ (fun e he => ⟨e, (List.mem_filter.1 he).1, rfl, rfl⟩))
    cases d with
    | ok beats => exact hleft
    | error => exact hleft.elsewhere (State.onlyChanges_notify _ _ _) (by decide)
    | timeout => exact hleft.elsewhere (State.onlyChanges_notify _ _ _) (by decide)

/-- A delivery after its tag has changed. -/
theorem State.readMoves_deliver (m n : TagNo) (x : Tag) (owner : TagOwner) (d : Delivery) :
    s.ReadMoves ((s.setTag m x).deliver n owner d) := by
  have htag : s.ReadMoves (s.setTag m x) := (s.onlyChanges_setTag m x).readMoves (by decide)
  cases owner with
  | fill id => exact htag.trans (State.readMoves_fillArrival _ id d)
  | write => exact htag.trans (State.readMoves_writeCompletion _ n d)

theorem State.readMoves_takeResponse (n : TagNo) (error : Bool) (beats : List Lines) :
    s.ReadMoves (s.takeResponse n error beats) := by
  unfold State.takeResponse
  split
  · exact s.readMoves_deliver ..
  · exact (s.onlyChanges_setTag n _).readMoves (by decide)
  · exact .refl s

theorem State.readMoves_endResponse (n : TagNo) (error : Bool) (beats : List Lines) :
    s.ReadMoves (s.endResponse n error beats) := by
  have hchannel : ∀ c, s.ReadMoves (s.setRespChannel c) := fun c =>
    (s.onlyChanges_setRespChannel c).readMoves (by decide)
  unfold State.endResponse
  split
  · exact s.readMoves_takeResponse ..
  · exact (hchannel _).trans (State.readMoves_takeResponse ..)
  · exact hchannel _

/-- A discard leaves slot and buffer as a collection does (R112). -/
theorem State.readMoves_discard {s : State} {id : CursorId} {z : AccessSize} {r : ReadResult} {i : Interval}
    (hslot : s.slot id = .ready z r i) : s.ReadMoves (s.discard id) := by
  have hused : ∀ keep, s.ReadMoves ((s.setSlot id .empty).setBuffer id ((s.buffer id).afterUse keep)) := fun keep =>
    .single (.use id keep (by simp [hslot]))
  have hemptied : s.ReadMoves (s.setSlot id .empty) :=
    (hused true).aside ⟨fun _ => rfl, fun x => by by_cases hx : x = id <;> simp [hx, Buffer.afterUse_keep], rfl, rfl,
      fun _ _ hb => hb⟩
  unfold State.discard
  split
  · exact hemptied.elsewhere (State.onlyChanges_countExpiry _ id.port) (by decide)
  · exact (hused _).elsewhere ((State.onlyChanges_notify _ _ _).trans (State.onlyChanges_countExpiry _ id.port))
      (by decide)

/-! ### A step -/

theorem State.onlyChanges_holdRequest (p : Port) (i : Instr) : s.OnlyChanges (s.holdRequest p i) [.links] := by
  intro q hq
  cases q <;> simp_all [State.agree]

theorem State.onlyChanges_reoffer (p : Port) : s.OnlyChanges (s.reoffer p) [.links, .pending] := by
  intro q hq
  cases q <;> simp_all [State.agree]

variable {s} {t : State}

theorem serve_readMoves {i : Instr} {p : Port} {f : Option ArgField} {tb qt : Bool} {body : State → State × Response}
    (hs : serve i p f tb qt body s = .next t) (hbody : s.ReadMoves (body s).1) : s.ReadMoves t := by
  rcases serve_cases i p f tb qt body s with ⟨-, e⟩ | ⟨r, -, -, e⟩ | ⟨-, -, e⟩ <;> rw [e] at hs <;> cases hs
  · exact (s.onlyChanges_holdRequest p i).readMoves (by decide)
  · exact (s.onlyChanges_answer p _).readMoves (by decide)
  · exact hbody.elsewhere (State.onlyChanges_answer _ p _) (by decide)

theorem refuseForm_readMoves {i : Instr} {p : Port} (hs : refuseForm i p s = .next t) : s.ReadMoves t := by
  unfold refuseForm at hs
  split at hs <;> cases hs
  · exact (s.onlyChanges_answer p _).readMoves (by decide)
  · exact (s.onlyChanges_holdRequest p i).readMoves (by decide)

theorem execWrite_readMoves {p : Port} {n : BitVec 4} {z : BitVec 3} {data : List Word}
    (hs : execWrite p n z data s = .next t) : s.ReadMoves t := by
  unfold execWrite at hs
  split at hs
  · exact serve_readMoves hs (s.readMoves_writeBody ..)
  · exact refuseForm_readMoves hs

theorem execPlacementService_readMoves (hs : execPlacementService s = .next t) : s.ReadMoves t := by
  unfold execPlacementService at hs
  split at hs <;> cases hs
  · exact .refl s
  · exact s.readMoves_serveEntry ..

theorem execGrant_readMoves {ready : Bool} (hs : execGrant ready s = .next t) : s.ReadMoves t := by
  unfold execGrant at hs
  split at hs
  · split at hs <;> cases hs
    · exact .refl s
    · exact State.readMoves_grantTo _
  · cases hs; exact .refl s

theorem execFirstBeat_readMoves {n : TagNo} {error : Bool} {data : Lines}
    (hs : execFirstBeat n error data s = .next t) : s.ReadMoves t := by
  unfold execFirstBeat at hs
  split at hs <;> cases hs
  · exact (s.onlyChanges_beginResponse n error data).readMoves (by decide)
  · exact .refl s
  · exact .refl s

theorem execResponseTimerExpiry_readMoves {n : TagNo} (hs : execResponseTimerExpiry n s = .next t) : s.ReadMoves t := by
  unfold execResponseTimerExpiry at hs
  split at hs <;> cases hs
  · exact s.readMoves_deliver ..
  · exact .refl s
  · exact .refl s
  · exact .refl s

theorem execDiscardTimerExpiry_readMoves {p : Port} {c : CursorNo} (hs : execDiscardTimerExpiry p c s = .next t) :
    s.ReadMoves t := by
  unfold execDiscardTimerExpiry at hs
  split at hs <;> cases hs
  · next hslot => exact State.readMoves_discard hslot
  · exact .refl s
  · exact .refl s

theorem execDeviceReset_readMoves {straps : BitVec 4} (hs : execDeviceReset straps s = .next t) : s.ReadMoves t := by
  cases hs
  exact .single (.reset State.reset_slot State.reset_buffer rfl rfl)

/-- Every command makes moves of the read path. -/
theorem exec_readMoves {i : Instr} (hs : exec i s = .next t) : s.ReadMoves t := by
  cases i <;> simp only [exec, execOpen, execClose, execSeek, execRead, execQueryCursor, execPush, execPop, execDrop,
    execStage, execCommit, execRetire, execQuerySegment, execFetchNotice, execSetPort, execReleasePort, execResetPort,
    execBadRequest, execMemoryResponse, execLateOrStray, execLastWordPassed] at hs
  case openCursor => exact serve_readMoves hs (s.readMoves_openBody ..)
  case closeCursor => exact serve_readMoves hs (s.readMoves_closeCursor _)
  case seek => exact serve_readMoves hs (s.readMoves_seekBody ..)
  case read => exact serve_readMoves hs (s.readMoves_readBody ..)
  case write => exact execWrite_readMoves hs
  case queryCursor => exact serve_readMoves hs (.refl s)
  case push => exact serve_readMoves hs (s.readMoves_pushBody _)
  case pop => exact serve_readMoves hs (s.readMoves_popBody ..)
  case drop => exact serve_readMoves hs (s.readMoves_dropBody _)
  case stage => exact serve_readMoves hs (s.readMoves_setPort ..)
  case commit => exact serve_readMoves hs (s.readMoves_commitBody ..)
  case retire => exact serve_readMoves hs (s.readMoves_retireBody ..)
  case querySegment => exact serve_readMoves hs (.refl s)
  case fetchNotice => exact serve_readMoves hs (s.readMoves_fetchBody _)
  case setPort => exact serve_readMoves hs (s.readMoves_setPortBody ..)
  case releasePort => exact serve_readMoves hs (s.readMoves_releasePortBody _)
  case resetPort => exact serve_readMoves hs (s.readMoves_resetPort _)
  case badRequest => exact refuseForm_readMoves hs
  case placementService => exact execPlacementService_readMoves hs
  case grant => exact execGrant_readMoves hs
  case responseFirstBeat => exact execFirstBeat_readMoves hs
  case memoryResponse => cases hs; exact s.readMoves_endResponse ..
  case lateOrStrayResponse => cases hs; exact s.readMoves_endResponse ..
  case responseTimerExpiry => exact execResponseTimerExpiry_readMoves hs
  case discardTimerExpiry => exact execDiscardTimerExpiry_readMoves hs
  case deviceReset => exact execDeviceReset_readMoves hs
  case responseLastWordPassed =>
    cases hs; exact (s.onlyChanges_reoffer _).readMoves (by decide)

/-- And so does every step. -/
theorem step_readMoves (hs : step s = .next t) : s.ReadMoves t := by
  unfold step at hs
  split at hs
  · cases hs; exact .refl s
  · next c rest _ =>
    have htaken : s.ReadMoves { s with pending := rest } :=
      .single (.aside ⟨fun _ => rfl, fun _ => rfl, rfl, rfl, fun _ _ hb => hb⟩)
    exact htaken.trans (exec_readMoves hs)

end

/-- Settles O56: a step is a sequence of moves of the read path, and every move keeps each invariant. -/
theorem stepKeepsTheReadPathCurrent : Obligations.StepKeepsTheReadPathCurrent := by
  refine ⟨fun s t h hs => ?_, fun s t h hs => ?_, fun s t h hs => ?_, fun s t hm h hs => ?_⟩
  · exact (step_readMoves hs).keeps (fun _ _ m => m.fillListExact) h
  · exact (step_readMoves hs).keeps (fun _ _ m => m.slotsOnBound) h
  · exact (step_readMoves hs).keeps (fun _ _ m => m.slotsMatchBuffers) h
  · exact ((step_readMoves hs).keeps (P := fun u => u.SlotsMatchBuffers ∧ u.BuffersCurrent)
      (fun _ _ m h => ⟨m.slotsMatchBuffers h.1, m.buffersCurrent h.1 h.2⟩) ⟨hm, h⟩).2

end Sys2Proof.Machine
end

section
/-! ## READ: hits, misses and collections (O27 to O31) -/

namespace Sys2Proof.Machine

/-! ### The parts they change -/

section
variable (s : State) (id : CursorId)

theorem State.onlyChanges_setSlot (x : Slot) : s.OnlyChanges (s.setSlot id x) [.slots] := by
  intro q hq
  cases q <;> simp_all [State.agree]

theorem State.onlyChanges_setBuffer (b : Buffer) : s.OnlyChanges (s.setBuffer id b) [.buffers] := by
  intro q hq
  cases q <;> simp_all [State.agree]

theorem State.onlyChanges_setFillList (l : List CursorId) : s.OnlyChanges (s.setFillList l) [.fillList] := by
  intro q hq
  cases q <;> simp_all [State.agree]

theorem State.onlyChanges_collectSlot : s.OnlyChanges (s.collectSlot id) [.slots, .ports] :=
  (s.onlyChanges_setSlot id .empty).trans (State.onlyChanges_setPort _ _ _)

theorem State.slot_collectSlot (x : CursorId) : (s.collectSlot id).slot x = if x = id then .empty else s.slot x := by
  simp [State.collectSlot]

theorem State.port_collectSlot (q : Port) :
    (s.collectSlot id).port q = if q = id.port then { s.port id.port with tally := 0 } else s.port q := by
  simp [State.collectSlot]

theorem State.buffer_collectSlot (x : CursorId) : (s.collectSlot id).buffer x = s.buffer x := by
  simp [State.collectSlot]

end

/-! ### The block of a miss (R93) -/

theorem fillSize_eq (d : Descriptor) (z : AccessSize) :
    fillSize d z = if d.depth = 0 then z.bytes else d.depth := rfl

/-- Rounded down to a multiple of the depth. -/
theorem blockBase_eq (d : Descriptor) (a : Word) :
    blockBase d a = if d.depth = 0 then a else BitVec.ofNat 32 (a.toNat / d.depth * d.depth) := by
  rw [blockBase, Nat.div_mul_self_eq_mod_sub_self]

/-! ### A READ answered -/

section
variable {p : Port} {target : BitVec 4} {size : BitVec 3} {S : Seg} {s : State}

/-- A READ that passes the checks is answered as the Read-Ahead Unit makes of it. -/
theorem exec_read_of_passes (hadm : s.Admits p false false) (htarget : target.toNat < 8) (hsize : size.toNat < 4)
    (hpass : s.AccessPasses (cursorOf p target) S (accessSize size)) :
    exec (.read p target size) s =
      .next ((readAhead (cursorOf p target) S (accessSize size) s).1.answer p
        (readAhead (cursorOf p target) S (accessSize size) s).2) := by
  rw [exec_read hadm htarget hsize, readBody_of_passes hpass]

end

section
variable {s u : State} {id : CursorId} {S : Seg} {parts : List Part} (ho : s.OnlyChanges u parts)
  (hparts : ∀ q ∈ [Part.cursors, .dt, .notices, .mapQueues], q ∉ parts)
include ho hparts

/-- The advance of a DONE read, after slot, buffer or tally have changed. -/
theorem State.advanced_advance_after (m : Nat) : s.Advanced (u.advance id S m) id S m :=
  (u.advanced_advance id S m).congr (ho .cursors (hparts _ (by simp))).symm (ho .dt (hparts _ (by simp))).symm
    (ho .notices (hparts _ (by simp))).symm (ho .mapQueues (hparts _ (by simp))).symm rfl rfl rfl rfl

end

/-- Settles O29: the slot decides before the buffer is looked at. -/
theorem readOfABusySlot : Obligations.ReadOfABusySlot := by
  intro p target size S s
  dsimp only
  intro hadm htarget hsize hpass
  have he := exec_read_of_passes hadm htarget hsize hpass
  refine ⟨fun hslot => ?_, fun y hy hslot => ?_, fun y r i hy hslot => ?_⟩
  · rw [he, readAhead_again hslot]
  · rw [he, readAhead_mismatch hy (.inl hslot)]
  · rw [he, readAhead_mismatch hy (.inr ⟨r, i, hslot⟩)]

/-- Settles O28: a miss and a retargeting give the buffer the same block; only the miss queues a fill. -/
theorem readMissStartsAFill : Obligations.ReadMissStartsAFill := by
  intro p target size S s
  dsimp only
  intro hadm htarget hsize hpass hslot
  have he := exec_read_of_passes hadm htarget hsize hpass
  rw [← blockBase_eq, ← fillSize_eq]
  refine ⟨fun hbuffer => ?_, fun b m hbuffer => ?_⟩
  · have hmiss : readAhead (cursorOf p target) S (accessSize size) s =
        readMiss (cursorOf p target) S (accessSize size) s := by
      refine readAhead_miss hslot (hbuffer.imp_right ?_)
      rintro ⟨b, n, bytes, hb, hout⟩
      exact ⟨b, n, bytes, hb, Bool.eq_false_iff.2 (fun hin => hout ((inside_iff _ _ _ _).1 hin))⟩
    rw [hmiss] at he
    refine ⟨_, he, .of_body ?_ rfl, by simp [readMiss], fun x hx => by simp [readMiss, hx], by simp [readMiss, physical],
      fun x hx => by simp [readMiss, hx], by simp [readMiss]⟩
    exact ((s.onlyChanges_setSlot _ _).trans (State.onlyChanges_setBuffer _ _ _)).trans
      (State.onlyChanges_setFillList _ _)
  · rw [readAhead_retarget hslot hbuffer] at he
    refine ⟨_, he, .of_body ?_ rfl, by simp [readRetarget], fun x hx => by simp [readRetarget, hx],
      by simp [readRetarget, physical], fun x hx => by simp [readRetarget, hx]⟩
    exact (s.onlyChanges_setSlot _ _).trans (State.onlyChanges_setBuffer _ _ _)

/-- Settles O27: the buffer is used, then the cursor advances. -/
theorem readHitDeliversAndAdvances : Obligations.ReadHitDeliversAndAdvances := by
  intro p target size S base n bytes s
  dsimp only
  intro hadm htarget hsize hpass hslot hbuffer hlo hhi
  have he := exec_read_of_passes hadm htarget hsize hpass
  rw [readAhead_hit hslot hbuffer ((inside_iff _ _ _ _).2 ⟨hlo, hhi⟩)] at he
  have hused := s.onlyChanges_setBuffer (cursorOf p target)
    ((s.buffer (cursorOf p target)).afterUse (s.desc S).keep)
  refine ⟨_, he, (State.advanced_advance_after hused (by decide) 1).answer p _, ?_, fun x hx => ?_, ?_⟩
  · simp [readHit, readDone, hbuffer, Buffer.afterUse]
  · simp [readHit, readDone, hx]
  · rw [State.cursor_answer]
    exact .of_body ((hused.trans (State.onlyChanges_advance _ _ S 1)).mono (by decide)) (by simp [readHit, readDone])

/-- Settles O30: the slot is collected and the buffer used, then the cursor advances. -/
theorem collectionDeliversAndAdvances : Obligations.CollectionDeliversAndAdvances := by
  intro p target size S bytes i s
  dsimp only
  intro hadm htarget hsize hpass hslot
  have he := exec_read_of_passes hadm htarget hsize hpass
  rw [readAhead_collect hslot] at he
  have hused := (s.onlyChanges_collectSlot (cursorOf p target)).trans (State.onlyChanges_setBuffer _ (cursorOf p target)
    ((s.buffer (cursorOf p target)).afterUse (s.desc S).keep))
  refine ⟨_, he, (State.advanced_advance_after hused (by decide) 1).answer p _, ?_, fun x hx => ?_, ?_, fun q hq => ?_,
    fun x hx => ?_, fun b n data hbuffer => ?_, fun hbuffer => ?_, ?_⟩
  · simp [readCollect, readDone, State.slot_collectSlot]
  · simp [readCollect, readDone, State.slot_collectSlot, hx]
  · simp [readCollect, readDone, State.port_collectSlot]
  · simp [readCollect, readDone, State.port_collectSlot, hq]
  · simp [readCollect, readDone, State.buffer_collectSlot, hx]
  · simp [readCollect, readDone, hbuffer, Buffer.afterUse]
  · simp [readCollect, readDone, hbuffer, Buffer.afterUse]
  · rw [State.cursor_answer]
    refine .of_body ((hused.trans (State.onlyChanges_advance _ _ S 1)).mono (by decide)) ?_
    exact (hused.trans (State.onlyChanges_advance _ _ S 1)) .links (by decide)

theorem readCollect_failure {id : CursorId} {S : Seg} {z : AccessSize} {s : State} {failure : ReadResult}
    {reason : Reason} (h : (failure, reason) ∈ [(ReadResult.memoryError, Reason.memoryError),
      (ReadResult.memoryTimeout, Reason.memoryTimeout)]) :
    readCollect id S z failure s = (s.collectSlot id, .refused reason) := by
  simp only [List.mem_cons, Prod.mk.injEq, List.not_mem_nil, or_false] at h
  rcases h with ⟨rfl, rfl⟩ | ⟨rfl, rfl⟩ <;> rfl

/-- Settles O31: a failure is collected without an advance. -/
theorem failureIsCollectedOnce : Obligations.FailureIsCollectedOnce := by
  intro p target size S i s
  dsimp only
  intro hadm htarget hsize hpass failure reason hmem hslot
  have he := exec_read_of_passes hadm htarget hsize hpass
  rw [readAhead_collect hslot, readCollect_failure hmem] at he
  refine ⟨_, he, .of_body (s.onlyChanges_collectSlot _) rfl, ?_, fun x hx => ?_, ?_, fun q hq => ?_⟩
  · simp [State.slot_collectSlot]
  · simp [State.slot_collectSlot, hx]
  · simp [State.port_collectSlot]
  · simp [State.port_collectSlot, hq]

end Sys2Proof.Machine
end

section
/-! ## Candidates and discards (O46, O53) -/

namespace Sys2Proof.Machine

/-! ### The candidate fill and the candidate write (R105, R126) -/

/-- An entry overlaps a block when they share a byte (R120). -/
theorem PostEntry.overlaps_iff (e : PostEntry) (b : Word) (n : Nat) :
    e.overlaps b n = true ↔ e.addr.toNat < b.toNat + n ∧ b.toNat < e.addr.toNat + e.size.bytes := by
  simp [PostEntry.overlaps, overlap]

theorem PostEntry.overlaps_eq_false (e : PostEntry) (b : Word) (n : Nat) :
    e.overlaps b n = false ↔ ¬ (e.addr.toNat < b.toNat + n ∧ b.toNat < e.addr.toNat + e.size.bytes) := by
  rw [← PostEntry.overlaps_iff, Bool.not_eq_true]

theorem PostState.isIssued_iff (x : PostState) : x.isIssued = true ↔ x ≠ .queued := by
  cases x <;> simp [PostState.isIssued]

theorem State.fillCandidate_eq_some (s : State) (id : CursorId) :
    s.fillCandidate = some id ↔
      ∃ front rest, s.fillList = front ++ id :: rest ∧ s.fillEligible id = true ∧
        ∀ x ∈ front, ¬ s.fillEligible x = true := by
  rw [State.fillCandidate, List.find?_eq_some_iff_append]
  constructor
  · rintro ⟨hid, front, rest, hl, hfront⟩
    exact ⟨front, rest, hl, hid, fun x hx => by simpa using hfront x hx⟩
  · rintro ⟨front, rest, hl, hid, hfront⟩
    exact ⟨hid, front, rest, hl, fun x hx => by simpa using hfront x hx⟩

theorem oldestQueued_eq_some (q : List PostEntry) (e : PostEntry) :
    oldestQueued q = some e ↔
      ∃ front rest, q = front ++ e :: rest ∧ e.state = .queued ∧ ∀ x ∈ front, x.state ≠ .queued := by
  rw [oldestQueued, List.find?_eq_some_iff_append]
  constructor
  · rintro ⟨he, front, rest, hq, hfront⟩
    exact ⟨front, rest, hq, by simpa using he, fun x hx => by simpa using hfront x hx⟩
  · rintro ⟨front, rest, hq, he, hfront⟩
    exact ⟨by simpa using he, front, rest, hq, fun x hx => by simpa using hfront x hx⟩

/-- The oldest QUEUED entry is offered unless an ISSUED one overlaps it. -/
theorem State.writeCandidate_eq_some (s : State) (e : PostEntry) :
    s.writeCandidate = some e ↔
      oldestQueued s.postQueue = some e ∧
        ∀ x ∈ s.postQueue, x.state ≠ .queued → x.overlaps e.addr e.size.bytes = false := by
  have hheld : s.postQueue.any (fun x => x.state.isIssued && x.overlaps e.addr e.size.bytes) = false ↔
      ∀ x ∈ s.postQueue, x.state ≠ .queued → x.overlaps e.addr e.size.bytes = false := by
    simp only [List.any_eq_false, Bool.and_eq_true, not_and, Bool.not_eq_true, PostState.isIssued_iff]
  rw [← hheld, State.writeCandidate]
  cases oldestQueued s.postQueue with
  | none => simp
  | some f =>
    dsimp only
    by_cases hf : f = e
    · subst hf; simp
    · split <;> simp [hf]

/-- Settles O46: each candidate is the first of its list that may go. -/
theorem candidatesAreTheOldest : Obligations.CandidatesAreTheOldest := by
  intro s
  dsimp only
  simp only [← PostEntry.overlaps_eq_false, ← State.fillEligible_iff]
  refine ⟨s.fillCandidate_eq_some, fun e => ?_⟩
  rw [State.writeCandidate_eq_some, oldestQueued_eq_some]

/-! ### The expiry of a discard timer (R112, R113, R164) -/

/-- PORT_QUARANTINED sent to the ports of a list that are to be told, each once. -/
theorem State.noticeQueue_foldl_notify (told : Port → Prop) [DecidablePred told] (n : Notice) (q : Port)
    {ps : List Port} (hnd : ps.Nodup) (s : State) :
    (ps.foldl (fun t p => if told p then t.notify p n else t) s).noticeQueue q =
      if q ∈ ps ∧ told q then (s.noticeQueue q).push n else s.noticeQueue q := by
  induction ps generalizing s with
  | nil => simp
  | cons p ps ih =>
    obtain ⟨hp, hps⟩ := List.nodup_cons.1 hnd
    rw [List.foldl_cons, ih hps]
    by_cases hq : q = p
    · subst hq
      by_cases ht : told q <;> simp [hp, ht]
    · by_cases ht : told p <;> simp [hq, ht]

theorem State.noticeQueue_notifyQuarantine (s : State) (p q : Port) :
    (s.notifyQuarantine p).noticeQueue q =
      if q = p ∨ (s.port q).authority = .table then (s.noticeQueue q).push (.portQuarantined p)
      else s.noticeQueue q := by
  rw [State.notifyQuarantine, State.noticeQueue_foldl_notify _ _ q allPorts_nodup]
  simp only [mem_allPorts, true_and]

/-- The onset of a quarantine: the count reaches a limit that is not 0 on an ACTIVE port (R164). -/
def PortRec.Onset (r : PortRec) : Prop := r.limit ≠ 0 ∧ r.status = .active ∧ r.limit ≤ min (r.tally + 1) 15

section
variable {s : State} {p : Port}

theorem State.countExpiry_of_onset (h : (s.port p).Onset) :
    s.countExpiry p =
      (s.setPort p { s.port p with tally := min ((s.port p).tally + 1) 15, status := .quarantined }).notifyQuarantine
        p :=
  if_pos h

theorem State.countExpiry_of_quiet (h : ¬ (s.port p).Onset) :
    s.countExpiry p = s.setPort p { s.port p with tally := min ((s.port p).tally + 1) 15 } :=
  if_neg h

end

theorem exec_discardTimerExpiry {s : State} {p : Port} {c : CursorNo} {z : AccessSize} {r : ReadResult} {i : Interval}
    (hslot : s.slot ⟨p, c⟩ = .ready z r i) : exec (.discardTimerExpiry p c) s = .next (s.discard ⟨p, c⟩) := by
  simp [exec, execDiscardTimerExpiry, hslot]

/-- The discard of a result on a segment: slot, buffer and notice, then the count (R112). -/
theorem State.discard_of_segment {s : State} {id : CursorId} {S : Seg} (hseg : (s.cursor id).segment = some S) :
    s.discard id =
      (((s.setSlot id .empty).setBuffer id ((s.buffer id).afterUse (s.desc S).keep)).notify id.port
        (.readDiscarded id.cursor S (s.cursor id).offset)).countExpiry id.port := by
  simp [State.discard, hseg]

section
variable (s : State) (q : Port)

@[simp] theorem State.slot_countExpiry (x : CursorId) : (s.countExpiry q).slot x = s.slot x :=
  congrArg (Grid.get · x) (s.onlyChanges_countExpiry q .slots (by decide))

@[simp] theorem State.buffer_countExpiry (x : CursorId) : (s.countExpiry q).buffer x = s.buffer x :=
  congrArg (Grid.get · x) (s.onlyChanges_countExpiry q .buffers (by decide))

@[simp] theorem State.port_notifyQuarantine (x : Port) : (s.notifyQuarantine q).port x = s.port x :=
  congrArg (fget · x) (s.onlyChanges_notifyQuarantine q .ports (by decide))

theorem State.port_countExpiry_ne {x : Port} (hx : x ≠ q) : (s.countExpiry q).port x = s.port x := by
  by_cases h : (s.port q).Onset
  · rw [State.countExpiry_of_onset h]; simp [hx]
  · rw [State.countExpiry_of_quiet h]; simp [hx]

end

/-- Settles O53: slot and buffer as a collection leaves them, the notice, and the count with or without an onset. -/
theorem discardIsCountedAndMayQuarantine : Obligations.DiscardIsCountedAndMayQuarantine := by
  intro p c z r i S s
  dsimp only
  intro hslot hseg
  have honly := s.onlyChanges_discard ⟨p, c⟩
  have heq := State.discard_of_segment hseg
  refine ⟨_, exec_discardTimerExpiry hslot, honly, ?_, fun x hx => ?_, fun x hx => ?_, fun b n data hbuffer => ?_,
    fun hbuffer => ?_, fun q hq => ?_, fun hquiet => ?_, fun honset => ?_⟩
  · simp [heq]
  · simp [heq, hx]
  · simp [heq, hx]
  · simp [heq, hbuffer, Buffer.afterUse]
  · simp [heq, hbuffer, Buffer.afterUse]
  · simp [heq, State.port_countExpiry_ne _ p hq]
  · rw [heq, State.countExpiry_of_quiet (by simpa [PortRec.Onset] using hquiet)]
    exact ⟨by simp, by simp, fun q hq => by simp [hq]⟩
  · rw [heq, State.countExpiry_of_onset (by simpa [PortRec.Onset] using honset)]
    refine ⟨by simp, by simp [State.noticeQueue_notifyQuarantine], fun q hq => ?_⟩
    simp [State.noticeQueue_notifyQuarantine, hq]

end Sys2Proof.Machine
end

section
/-! ## WRITE: the entry posted and the sweep (O32) -/

namespace Sys2Proof.Machine

/-! ### The sweep of one buffer (R124) -/

section
variable {e : PostEntry} {b : Word} {n : Nat}

@[simp] theorem Buffer.swept_empty (e : PostEntry) : Buffer.empty.swept e = .empty := rfl

theorem Buffer.swept_valid_of_overlaps (h : e.overlaps b n = true) (data : List Byte) :
    (Buffer.valid b n data).swept e = .empty :=
  if_pos h

theorem Buffer.swept_filling_of_overlaps (h : e.overlaps b n = true) (v : Bool) (pos : FillPos) :
    (Buffer.filling b n v pos).swept e = .filling b n true pos :=
  if_pos h

/-- A buffer whose block the entry does not overlap stays. -/
theorem Buffer.swept_valid_of_clear (h : ¬ e.overlaps b n = true) (data : List Byte) :
    (Buffer.valid b n data).swept e = .valid b n data :=
  if_neg h

theorem Buffer.swept_filling_of_clear (h : ¬ e.overlaps b n = true) (v : Bool) (pos : FillPos) :
    (Buffer.filling b n v pos).swept e = .filling b n v pos :=
  if_neg h

end

/-! ### A WRITE accepted (R123 to R125) -/

theorem State.onlyChanges_post (s : State) (e : PostEntry) :
    s.OnlyChanges ((s.setPostQueue (s.postQueue ++ [e])).sweep e) [.postQueue, .buffers] := by
  intro q hq
  cases q <;> simp_all [State.agree, State.sweep]

theorem writeBody_accept {s : State} {id : CursorId} {S : Seg} {z : AccessSize} {data : List Word}
    (h : s.AccessPasses id S z) (hw : (s.cursor id).writeRight = true)
    (hslot : s.slot id = .empty) (hroom : s.postQueue.length < 16) :
    writeBody id z data s = writeAccept id S z data s := by
  simp [writeBody, accessCheck_of_passes h, hw, hslot, Config.postQueueDepth, Nat.not_le.2 hroom]

section
variable (id : CursorId) (S : Seg) (z : AccessSize) (data : List Word) (s : State)

@[simp] theorem writeAccept_postQueue :
    (writeAccept id S z data s).1.postQueue = s.postQueue ++ [postEntry id S z data s] := by
  simp [writeAccept]

@[simp] theorem writeAccept_buffer (x : CursorId) :
    (writeAccept id S z data s).1.buffer x = (s.buffer x).swept (postEntry id S z data s) := by
  simp [writeAccept]

end

/-- Settles O32: the entry is posted and the buffers swept, then the cursor advances. -/
theorem writeIsPosted : Obligations.WriteIsPosted := by
  intro p target size data S s
  dsimp only
  intro hadm htarget hsize hwf hpass hw hslot hroom
  have he := exec_write hadm htarget hsize hwf
  rw [writeBody_accept hpass hw hslot hroom] at he
  have hposted := s.onlyChanges_post (postEntry (cursorOf p target) S (accessSize size) data s)
  have hhits := (postEntry (cursorOf p target) S (accessSize size) data s).overlaps_iff
  refine ⟨_, he, (State.advanced_advance_after hposted (by decide) 1).answer p _, by simp [postEntry, physical],
    fun x hx => by simp [hx], fun x b n bytes hx => ?_, fun x b n v pos hx => ?_, ?_⟩
  · rw [State.buffer_answer, writeAccept_buffer, hx]
    exact ⟨fun h => Buffer.swept_valid_of_overlaps ((hhits b n).2 h) bytes,
      fun h => Buffer.swept_valid_of_clear (fun ho => h ((hhits b n).1 ho)) bytes⟩
  · rw [State.buffer_answer, writeAccept_buffer, hx]
    exact ⟨fun h => Buffer.swept_filling_of_overlaps ((hhits b n).2 h) v pos,
      fun h => Buffer.swept_filling_of_clear (fun ho => h ((hhits b n).1 ho)) v pos⟩
  · rw [State.cursor_answer]
    exact .of_body ((hposted.trans (State.onlyChanges_advance _ _ S 1)).mono (by decide)) (by simp [writeAccept])

end Sys2Proof.Machine
end

section
/-! ## Every step keeps the Post Queue ordered (O57)

The Post Queue changes in three ways only, which State.PostMove lists: every command makes one of these moves, and
every move keeps both invariants. -/

namespace Sys2Proof.Machine

/-! ### The moves of the Post Queue -/

/-- What a step from s to t can do to the Post Queue. -/
inductive State.PostMove (s t : State) : Prop
  /-- Entries leave the queue, or none does (R121, R129, R130). -/
  | leave (h : t.postQueue.Sublist s.postQueue) : PostMove s t
  /-- A QUEUED entry joins a queue with room at the tail (R122, R123). -/
  | post (e : PostEntry) (hroom : s.postQueue.length < Config.postQueueDepth) (hnew : e.state = .queued)
      (h : t.postQueue = s.postQueue ++ [e]) : PostMove s t
  /-- The oldest QUEUED entry, overlapped by no ISSUED one, becomes ISSUED in its place (R126, R127). -/
  | issue (n : TagNo) (front : List PostEntry) (e : PostEntry) (rest : List PostEntry)
      (hs : s.postQueue = front ++ e :: rest) (hqueued : e.state = .queued) (hfront : ∀ x ∈ front, x.state ≠ .queued)
      (hclear : ∀ x ∈ s.postQueue, x.state ≠ .queued → x.overlaps e.addr e.size.bytes = false)
      (h : t.postQueue = front ++ { e with state := .issued n } :: rest) : PostMove s t

namespace State.PostMove

variable {s t u : State}

theorem stay (h : t.postQueue = s.postQueue) : s.PostMove t := .leave (by rw [h])

/-- A move speaks of the two queues alone. -/
theorem congr {s' t' : State} (m : s.PostMove t) (hs : s'.postQueue = s.postQueue) (ht : t'.postQueue = t.postQueue) :
    s'.PostMove t' := by
  cases m with
  | leave h => exact .leave (by rwa [hs, ht])
  | post e hroom hnew h => exact .post e (hs ▸ hroom) hnew (by rw [hs, ht, h])
  | issue n front e rest hq hqueued hfront hclear h =>
    exact .issue n front e rest (hs.trans hq) hqueued hfront (hs ▸ hclear) (ht.trans h)

theorem of_onlyChanges {parts : List Part} (ho : s.OnlyChanges t parts) (hparts : Part.postQueue ∉ parts) :
    s.PostMove t := .stay (ho .postQueue hparts)

/-! ### Every move keeps the order (R119, R120) -/

theorem queueOrdered (m : s.PostMove t) (hs : s.QueueOrdered) : t.QueueOrdered := by
  obtain ⟨hlength, horder⟩ := hs
  cases m with
  | leave h => exact ⟨h.length_le.trans hlength, horder.sublist h⟩
  | post e hroom hnew h =>
    refine ⟨by rw [h, List.length_append]; exact hroom, ?_⟩
    rw [h, List.pairwise_append]
    refine ⟨horder, List.pairwise_singleton .., fun a _ b hb => ?_⟩
    rw [List.mem_singleton.1 hb, hnew]
    nofun
  | issue n front e rest hq hqueued hfront hclear h =>
    rw [hq, List.pairwise_append, List.pairwise_cons] at horder
    obtain ⟨horderFront, ⟨-, horderRest⟩, hcross⟩ := horder
    refine ⟨by simpa [h, hq] using hlength, ?_⟩
    rw [h, List.pairwise_append, List.pairwise_cons]
    exact ⟨horderFront, ⟨fun _ _ _ => rfl, horderRest⟩,
      fun a ha _ _ _ => (PostState.isIssued_iff _).2 (hfront a ha)⟩

end State.PostMove

/-! ### Every move keeps the ISSUED entries apart (R128) -/

/-- Sharing a byte is symmetric (R120). -/
theorem PostEntry.overlaps_comm (e f : PostEntry) :
    e.overlaps f.addr f.size.bytes = f.overlaps e.addr e.size.bytes :=
  Bool.and_comm ..

theorem State.PostMove.issuedDisjoint {s t : State} (m : s.PostMove t) (hs : s.IssuedDisjoint) : t.IssuedDisjoint := by
  unfold State.IssuedDisjoint at hs ⊢
  cases m with
  | leave h => exact hs.sublist h
  | post e hroom hnew h =>
    rw [h, List.pairwise_append]
    refine ⟨hs, List.pairwise_singleton .., fun a _ b hb _ hissued => ?_⟩
    rw [List.mem_singleton.1 hb, hnew] at hissued
    cases hissued
  | issue n front e rest hq hqueued hfront hclear h =>
    have hapart : ∀ x ∈ front ++ e :: rest, x.state.isIssued = true → x.overlaps e.addr e.size.bytes = false :=
      fun x hx hissued => hclear x (hq ▸ hx) ((PostState.isIssued_iff _).1 hissued)
    rw [hq, List.pairwise_append, List.pairwise_cons] at hs
    obtain ⟨hfrontApart, ⟨-, hrestApart⟩, hcross⟩ := hs
    rw [h, List.pairwise_append, List.pairwise_cons]
    refine ⟨hfrontApart, ⟨fun b hb _ hissued => ?_, hrestApart⟩, fun a ha b hb hissued => ?_⟩
    · rw [← PostEntry.overlaps_comm]
      exact hapart b (by simp [hb]) hissued
    · rcases List.mem_cons.1 hb with rfl | hb
      · exact fun _ => hapart a (by simp [ha]) hissued
      · exact hcross a ha b (List.mem_cons_of_mem _ hb) hissued

/-! ### Requests: all but WRITE leave the queue alone -/

section
variable (s : State) (id : CursorId)

theorem openBody_postQueue (S : Seg) (offset : Word) (stride : BitVec 16) (expected : Option (BitVec 8)) :
    (openBody id S offset stride expected s).1.postQueue = s.postQueue := by
  unfold openBody
  dsimp only
  split <;> rfl

theorem seekBody_postQueue (offset : Word) (stride : Option (BitVec 16)) :
    (seekBody id offset stride s).1.postQueue = s.postQueue := by
  unfold seekBody
  dsimp only
  repeat' split
  all_goals rfl

theorem readDone_postQueue (S : Seg) (z : AccessSize) (bytes : List Byte) (n : Nat) :
    (readDone id S z bytes n s).1.postQueue = s.postQueue := by
  simp [readDone]

theorem readCollect_postQueue (S : Seg) (z : AccessSize) (r : ReadResult) :
    (readCollect id S z r s).1.postQueue = s.postQueue := by
  cases r with
  | data bytes => exact readDone_postQueue ..
  | memoryError => rfl
  | memoryTimeout => rfl

theorem readAhead_postQueue (S : Seg) (z : AccessSize) : (readAhead id S z s).1.postQueue = s.postQueue := by
  unfold readAhead
  split
  · split
    · rfl
    · dsimp only
      split
      · exact readDone_postQueue ..
      · rfl
    · rfl
  · split <;> rfl
  · split
    · exact readCollect_postQueue ..
    · rfl

theorem readBody_postQueue (z : AccessSize) : (readBody id z s).1.postQueue = s.postQueue := by
  unfold readBody
  split
  · rfl
  · exact readAhead_postQueue ..

theorem pushBody_postQueue : (pushBody id s).1.postQueue = s.postQueue := by
  unfold pushBody pushHeld
  dsimp only
  repeat' split
  all_goals rfl

theorem popBody_postQueue (k : Nat) : (popBody id k s).1.postQueue = s.postQueue := by
  unfold popBody
  split
  · rfl
  · split
    · rfl
    · next x rest _ =>
      exact ((s.onlyChanges_popClear id).trans ((State.onlyChanges_setStack _ id.port rest).trans
        (State.onlyChanges_restore _ id x k))) .postQueue (by decide)

theorem dropBody_postQueue (p : Port) : (dropBody p s).1.postQueue = s.postQueue := by
  unfold dropBody
  split
  · rfl
  · simp

theorem commitBody_postQueue (p : Port) (S : Seg) : (commitBody p S s).1.postQueue = s.postQueue := by
  unfold commitBody
  dsimp only
  repeat' split
  all_goals rfl

theorem retireBody_postQueue (p : Port) (forced : Bool) (S : Seg) :
    (retireBody p forced S s).1.postQueue = s.postQueue := by
  have hforced := s.onlyChanges_forceRetire S .postQueue (by decide)
  unfold retireBody
  dsimp only
  split
  · rfl
  · split
    · rfl
    · split
      · exact hforced
      · rfl
  · split
    · exact hforced
    · rfl

theorem fetchBody_postQueue (p : Port) : (fetchBody p s).1.postQueue = s.postQueue := by
  unfold fetchBody
  dsimp only
  split <;> rfl

theorem setPortBody_postQueue (q : Port) (a : Option Authority) (pr : Option Priority) (n : Option Nat)
    (i : Option Interval) : (setPortBody q a pr n i s).1.postQueue = s.postQueue := by
  unfold setPortBody
  dsimp only
  split <;> rfl

theorem releasePortBody_postQueue (q : Port) : (releasePortBody q s).1.postQueue = s.postQueue := by
  unfold releasePortBody
  split <;> rfl

theorem State.resetCursors_postQueue (q : Port) : (s.resetCursors q).postQueue = s.postQueue :=
  List.foldlRecOn (motive := fun u : State => u.postQueue = s.postQueue) allCursorNos _ rfl
    (fun u hu c _ => by rw [State.closeCursor_postQueue, hu])

theorem State.resetStack_postQueue (q : Port) : (s.resetStack q).postQueue = s.postQueue :=
  List.foldlRecOn (motive := fun u : State => u.postQueue = s.postQueue) _ _ rfl
    (fun u hu x _ => by rw [State.letGo_postQueue, hu])

/-- A port reset leaves the posted writes of its cursors where they are (R170). -/
theorem State.resetPort_postQueue (q : Port) : (s.resetPort q).postQueue = s.postQueue := by
  rw [State.resetPort, State.resetRecord, State.setPort_postQueue, State.resetStack_postQueue,
    State.resetCursors_postQueue, State.setNotices_postQueue]

/-! ### WRITE (R122, R123) -/

theorem State.postMove_writeBody (z : AccessSize) (data : List Word) : s.PostMove (writeBody id z data s).1 := by
  unfold writeBody
  split
  · exact .stay rfl
  · next S _ =>
    split
    · exact .stay rfl
    · split
      · exact .stay rfl
      · split
        · exact .stay rfl
        · next hroom => exact .post (postEntry id S z data s) (Nat.lt_of_not_le hroom) rfl (by simp)

end

/-! ### Grants (R126, R127) -/

/-- The first QUEUED entry becomes ISSUED in its place. -/
theorem issueOldest_append (n : TagNo) {front : List PostEntry} {e : PostEntry} (rest : List PostEntry)
    (hfront : ∀ x ∈ front, x.state ≠ .queued) (he : e.state = .queued) :
    issueOldest n (front ++ e :: rest) = front ++ { e with state := .issued n } :: rest := by
  induction front with
  | nil => simp [issueOldest, he]
  | cons x front ih =>
    obtain ⟨hx, hfront⟩ := List.forall_mem_cons.1 hfront
    rw [List.cons_append, issueOldest, if_neg hx, ih hfront, List.cons_append]

@[simp] theorem State.grantFill_postQueue (s : State) (n : TagNo) (id : CursorId) :
    (s.grantFill n id).postQueue = s.postQueue := by
  unfold State.grantFill
  split <;> rfl

section
variable {s : State} (n : TagNo)

theorem State.postMove_grantWrite {e : PostEntry} (h : s.writeCandidate = some e) : s.PostMove (s.grantWrite n e) := by
  obtain ⟨holdest, hclear⟩ := (s.writeCandidate_eq_some e).1 h
  obtain ⟨front, rest, hq, hqueued, hfront⟩ := (oldestQueued_eq_some _ _).1 holdest
  refine .issue n front e rest hq hqueued hfront hclear ?_
  rw [← issueOldest_append n rest hfront hqueued, ← hq]
  rfl

theorem State.postMove_grantTo : s.PostMove (s.grantTo n) := by
  unfold State.grantTo
  split
  · exact .stay rfl
  · exact .stay (by simp)
  · next h => exact State.postMove_grantWrite n h
  · next h =>
    split
    · exact .stay (by simp)
    · exact State.postMove_grantWrite n h

end

/-! ### Deliveries and responses (R129, R145 to R148) -/

section
variable (s : State)

theorem State.postMove_writeCompletion (n : TagNo) (d : Delivery) : s.PostMove (s.writeCompletion n d) := by
  unfold State.writeCompletion
  split
  · exact .stay rfl
  · have hleft := List.filter_sublist (p := fun x : PostEntry => decide (x.state ≠ .issued n)) (l := s.postQueue)
    cases d <;> exact .leave hleft

theorem State.postMove_deliver (n : TagNo) (owner : TagOwner) (d : Delivery) : s.PostMove (s.deliver n owner d) := by
  cases owner with
  | fill id => exact .stay (s.fillArrival_postQueue id d)
  | write => exact s.postMove_writeCompletion n d

theorem State.postMove_takeResponse (n : TagNo) (error : Bool) (beats : List Lines) :
    s.PostMove (s.takeResponse n error beats) := by
  unfold State.takeResponse
  split
  · exact (State.postMove_deliver ..).congr (State.setTag_postQueue s n .free).symm rfl
  · exact .stay rfl
  · exact .stay rfl

theorem State.postMove_endResponse (n : TagNo) (error : Bool) (beats : List Lines) :
    s.PostMove (s.endResponse n error beats) := by
  unfold State.endResponse
  split
  · exact s.postMove_takeResponse ..
  · exact (State.postMove_takeResponse ..).congr (State.setRespChannel_postQueue s .idle).symm rfl
  · exact .stay rfl

end

/-! ### A step -/

section
variable {s t : State}

theorem serve_postMove {i : Instr} {p : Port} {f : Option ArgField} {tb qt : Bool} {body : State → State × Response}
    (hs : serve i p f tb qt body s = .next t) (hbody : s.PostMove (body s).1) : s.PostMove t := by
  rcases serve_cases i p f tb qt body s with ⟨-, e⟩ | ⟨r, -, -, e⟩ | ⟨-, -, e⟩ <;> rw [e] at hs <;> cases hs
  · exact .stay (s.holdRequest_postQueue p i)
  · exact .stay (s.answer_postQueue p _)
  · exact hbody.congr rfl (State.answer_postQueue _ p _)

theorem refuseForm_postMove {i : Instr} {p : Port} (hs : refuseForm i p s = .next t) : s.PostMove t := by
  unfold refuseForm at hs
  split at hs <;> cases hs
  · exact .stay (s.answer_postQueue p _)
  · exact .stay (s.holdRequest_postQueue p i)

theorem execWrite_postMove {p : Port} {n : BitVec 4} {z : BitVec 3} {data : List Word}
    (hs : execWrite p n z data s = .next t) : s.PostMove t := by
  unfold execWrite at hs
  split at hs
  · exact serve_postMove hs (s.postMove_writeBody ..)
  · exact refuseForm_postMove hs

theorem execPlacementService_postMove (hs : execPlacementService s = .next t) : s.PostMove t := by
  unfold execPlacementService at hs
  split at hs <;> cases hs
  · exact .stay rfl
  · unfold State.serveEntry
    split
    · exact .stay rfl
    · exact .stay (by simp)

theorem execGrant_postMove {ready : Bool} (hs : execGrant ready s = .next t) : s.PostMove t := by
  unfold execGrant at hs
  split at hs
  · split at hs <;> cases hs
    · exact .stay rfl
    · exact State.postMove_grantTo _
  · cases hs; exact .stay rfl

theorem execFirstBeat_postMove {n : TagNo} {error : Bool} {data : Lines}
    (hs : execFirstBeat n error data s = .next t) : s.PostMove t := by
  unfold execFirstBeat at hs
  split at hs <;> cases hs
  · exact .of_onlyChanges (s.onlyChanges_beginResponse n error data) (by decide)
  · exact .stay rfl
  · exact .stay rfl

theorem execResponseTimerExpiry_postMove {n : TagNo} (hs : execResponseTimerExpiry n s = .next t) : s.PostMove t := by
  unfold execResponseTimerExpiry at hs
  split at hs <;> cases hs
  · exact (State.postMove_deliver ..).congr (State.setTag_postQueue s n .abandoned).symm rfl
  · exact .stay rfl
  · exact .stay rfl
  · exact .stay rfl

theorem execDiscardTimerExpiry_postMove {p : Port} {c : CursorNo} (hs : execDiscardTimerExpiry p c s = .next t) :
    s.PostMove t := by
  unfold execDiscardTimerExpiry at hs
  split at hs <;> cases hs
  · exact .of_onlyChanges (s.onlyChanges_discard _) (by decide)
  · exact .stay rfl
  · exact .stay rfl

/-- A device reset empties the queue (R121). -/
theorem execDeviceReset_postMove {straps : BitVec 4} (hs : execDeviceReset straps s = .next t) : s.PostMove t := by
  cases hs
  exact .leave (List.nil_sublist _)

/-- Every command makes a move of the Post Queue. -/
theorem exec_postMove {i : Instr} (hs : exec i s = .next t) : s.PostMove t := by
  cases i <;> simp only [exec, execOpen, execClose, execSeek, execRead, execQueryCursor, execPush, execPop, execDrop,
    execStage, execCommit, execRetire, execQuerySegment, execFetchNotice, execSetPort, execReleasePort, execResetPort,
    execBadRequest, execMemoryResponse, execLateOrStray, execLastWordPassed] at hs
  case openCursor => exact serve_postMove hs (.stay (openBody_postQueue ..))
  case closeCursor => exact serve_postMove hs (.stay (s.closeCursor_postQueue _))
  case seek => exact serve_postMove hs (.stay (seekBody_postQueue ..))
  case read => exact serve_postMove hs (.stay (readBody_postQueue ..))
  case write => exact execWrite_postMove hs
  case queryCursor => exact serve_postMove hs (.stay rfl)
  case push => exact serve_postMove hs (.stay (pushBody_postQueue ..))
  case pop => exact serve_postMove hs (.stay (popBody_postQueue ..))
  case drop => exact serve_postMove hs (.stay (dropBody_postQueue ..))
  case stage => exact serve_postMove hs (.stay rfl)
  case commit => exact serve_postMove hs (.stay (commitBody_postQueue ..))
  case retire => exact serve_postMove hs (.stay (retireBody_postQueue ..))
  case querySegment => exact serve_postMove hs (.stay rfl)
  case fetchNotice => exact serve_postMove hs (.stay (fetchBody_postQueue ..))
  case setPort => exact serve_postMove hs (.stay (setPortBody_postQueue ..))
  case releasePort => exact serve_postMove hs (.stay (releasePortBody_postQueue ..))
  case resetPort => exact serve_postMove hs (.stay (s.resetPort_postQueue _))
  case badRequest => exact refuseForm_postMove hs
  case placementService => exact execPlacementService_postMove hs
  case grant => exact execGrant_postMove hs
  case responseFirstBeat => exact execFirstBeat_postMove hs
  case memoryResponse => cases hs; exact s.postMove_endResponse ..
  case lateOrStrayResponse => cases hs; exact s.postMove_endResponse ..
  case responseTimerExpiry => exact execResponseTimerExpiry_postMove hs
  case discardTimerExpiry => exact execDiscardTimerExpiry_postMove hs
  case deviceReset => exact execDeviceReset_postMove hs
  case responseLastWordPassed => cases hs; exact .stay (s.reoffer_postQueue _)

/-- And so does every step. -/
theorem step_postMove (hs : step s = .next t) : s.PostMove t := by
  unfold step at hs
  split at hs
  · cases hs; exact .stay rfl
  · exact (exec_postMove hs).congr rfl rfl

end

/-- Settles O57: a step makes a move of the Post Queue, and every move keeps the order and the ISSUED entries apart. -/
theorem stepKeepsThePostQueueOrdered : Obligations.StepKeepsThePostQueueOrdered :=
  ⟨fun _ _ h hs => (step_postMove hs).queueOrdered h, fun _ _ h hs => (step_postMove hs).issuedDisjoint h⟩

end Sys2Proof.Machine
end

section
/-! ## The memory port's own events

One equation for each case of a grant, a first beat, a response and an expiry; later proofs cite these. -/

namespace Sys2Proof.Machine

/-! ### The lowest FREE tag (R141) -/

theorem mem_allTags (n : TagNo) : n ∈ allTags := by revert n; decide

theorem allTags_sorted : allTags.Pairwise (· < ·) := by decide

theorem State.freeTag_eq_none (s : State) : s.freeTag = none ↔ ∀ n, s.tag n ≠ .free := by
  simp [State.freeTag, mem_allTags]

theorem State.tag_of_freeTag {s : State} {n : TagNo} (h : s.freeTag = some n) : s.tag n = .free := by
  simpa using List.find?_some h

/-- The tag found is the lowest FREE one. -/
theorem State.freeTag_of_lowest {s : State} {n : TagNo} (hfree : s.tag n = .free) (hlow : ∀ m < n, s.tag m ≠ .free) :
    s.freeTag = some n := by
  obtain ⟨front, rest, hsplit⟩ := List.append_of_mem (mem_allTags n)
  have hsorted := allTags_sorted
  rw [hsplit, List.pairwise_append] at hsorted
  rw [State.freeTag, List.find?_eq_some_iff_append]
  exact ⟨by simpa using hfree, front, rest, hsplit,
    fun m hm => by simpa using hlow m (hsorted.2.2 m hm n (List.mem_cons_self ..))⟩

/-! ### Grants (R141 to R143) -/

section
variable {s : State}

theorem exec_grant_noTag (h : s.freeTag = none) : exec (.grant true) s = .next s := by
  simp [exec, execGrant, h]

theorem exec_grant {n : TagNo} (h : s.freeTag = some n) : exec (.grant true) s = .next (s.grantTo n) := by
  simp [exec, execGrant, h]

variable (n : TagNo)

theorem State.grantTo_none (hf : s.fillCandidate = none) (hw : s.writeCandidate = none) : s.grantTo n = s := by
  simp [State.grantTo, hf, hw]

/-- The fill gets the tag when it is alone or the mark names it (R142). -/
theorem State.grantTo_fill {id : CursorId} (hf : s.fillCandidate = some id)
    (hturn : s.writeCandidate = none ∨ s.alternation = .fillNext) : s.grantTo n = s.grantFill n id := by
  rcases hturn with hw | ha
  · simp [State.grantTo, hf, hw]
  · cases hw : s.writeCandidate <;> simp [State.grantTo, hf, hw, ha]

/-- The write gets the tag when it is alone or the mark names it (R142). -/
theorem State.grantTo_write {e : PostEntry} (hw : s.writeCandidate = some e)
    (hturn : s.fillCandidate = none ∨ s.alternation = .writeNext) : s.grantTo n = s.grantWrite n e := by
  rcases hturn with hf | ha
  · simp [State.grantTo, hf, hw]
  · cases hf : s.fillCandidate <;> simp [State.grantTo, hf, hw, ha]

/-- What the grant of a tag to a waiting fill makes of the state (R106, R143). -/
theorem State.grantFill_of_filling {id : CursorId} {b : Word} {size : Nat} {v : Bool} {pos : FillPos}
    (hb : s.buffer id = .filling b size v pos) :
    s.grantFill n id =
      ((((s.startTag n (.fill id) size).setBuffer id (.filling b size false .inFlight)).setFillList
        (s.fillList.filter (fun x => decide (x ≠ id)))).setAlternation .writeNext).setMemRequest
        (some ⟨.read, n, b, size, none⟩) := by
  simp [State.grantFill, hb]

/-! ### First beats, responses and expiries (R145 to R148) -/

variable {n} {owner : TagOwner} {count : Nat} {timer : RespTimer} (error : Bool)

section
variable (data : Lines)

theorem exec_firstBeat (h : s.respChannel = .idle) :
    exec (.responseFirstBeat n error data) s = .next (s.beginResponse n error data) := by
  simp [exec, execFirstBeat, h]

theorem exec_firstBeat_busy (h : s.respChannel ≠ .idle) : exec (.responseFirstBeat n error data) s = .next s := by
  simp only [exec, execFirstBeat]
  split
  · next hidle => exact absurd hidle h
  · rfl
  · rfl

theorem State.beginResponse_busy (h : s.tag n = .busy owner count timer) :
    s.beginResponse n error data = (s.setTag n (.busy owner count .stopped)).setRespChannel (.begun n error data) := by
  simp [State.beginResponse, h]

theorem State.beginResponse_abandoned (h : s.tag n = .abandoned) :
    s.beginResponse n error data = (s.setTag n .free).setRespChannel .discarding := by
  simp [State.beginResponse, h]

theorem State.beginResponse_free (h : s.tag n = .free) :
    s.beginResponse n error data = s.setRespChannel .discarding := by
  simp [State.beginResponse, h]

end

variable (beats : List Lines)

/-- Both rows of whole responses end a response (R151, log entry 9). -/
theorem exec_response {i : Instr} (hi : i = .memoryResponse n error beats ∨ i = .lateOrStrayResponse n error beats) :
    exec i s = .next (s.endResponse n error beats) := by
  rcases hi with rfl | rfl <;> rfl

theorem State.endResponse_idle (h : s.respChannel = .idle) :
    s.endResponse n error beats = s.takeResponse n error beats := by
  simp [State.endResponse, h]

theorem State.endResponse_begun {m : TagNo} {e : Bool} {first : Lines} (h : s.respChannel = .begun m e first) :
    s.endResponse n error beats = (s.setRespChannel .idle).takeResponse m e (first :: beats.tail) := by
  simp [State.endResponse, h]

theorem State.endResponse_discarding (h : s.respChannel = .discarding) :
    s.endResponse n error beats = s.setRespChannel .idle := by
  simp [State.endResponse, h]

theorem State.takeResponse_busy (h : s.tag n = .busy owner count timer) :
    s.takeResponse n error beats = (s.setTag n .free).deliver n owner (outcome owner count error beats) := by
  simp [State.takeResponse, h]

theorem State.takeResponse_abandoned (h : s.tag n = .abandoned) : s.takeResponse n error beats = s.setTag n .free := by
  simp [State.takeResponse, h]

theorem State.takeResponse_free (h : s.tag n = .free) : s.takeResponse n error beats = s := by
  simp [State.takeResponse, h]

theorem exec_responseTimerExpiry {k : Nat} (h : s.tag n = .busy owner count (.running k)) :
    exec (.responseTimerExpiry n) s = .next ((s.setTag n .abandoned).deliver n owner .timeout) := by
  simp [exec, execResponseTimerExpiry, h]

theorem exec_responseTimerExpiry_quiet (h : ∀ o c k, s.tag n ≠ .busy o c (.running k)) :
    exec (.responseTimerExpiry n) s = .next s := by
  simp only [exec, execResponseTimerExpiry]
  split
  · next ho => exact absurd ho (h _ _ _)
  · rfl
  · rfl
  · rfl

@[simp] theorem State.tag_deliver (s : State) (m n : TagNo) (owner : TagOwner) (d : Delivery) :
    (s.deliver m owner d).tag n = s.tag n := by
  cases owner <;> simp [State.deliver]

@[simp] theorem State.deliver_respChannel (s : State) (m : TagNo) (owner : TagOwner) (d : Delivery) :
    (s.deliver m owner d).respChannel = s.respChannel := by
  cases owner <;> simp [State.deliver]

end

end Sys2Proof.Machine
end

section
/-! ## What happens to the memory port (O58)

The tags change by the memory port's own events alone. Every other command leaves alone what the invariants of O58 read
(State.LeavesPort). One inversion lemma, exec_portEvent, says so of every command. -/

namespace Sys2Proof.Machine

/-! ### The tags of ISSUED entries -/

/-- The tag an entry is ISSUED under (R139). -/
def PostState.tag? : PostState → Option TagNo
  | .queued => none
  | .issued n => some n

theorem PostState.tag?_eq_some (x : PostState) (n : TagNo) : x.tag? = some n ↔ x = .issued n := by
  cases x <;> simp [PostState.tag?]

theorem PostState.tag?_eq_none (x : PostState) : x.tag? = none ↔ x = .queued := by
  cases x <;> simp [PostState.tag?]

/-- The tags of the ISSUED entries of a queue, oldest first. -/
def issuedTags (q : List PostEntry) : List TagNo := q.filterMap (fun e => e.state.tag?)

theorem mem_issuedTags (q : List PostEntry) (n : TagNo) : n ∈ issuedTags q ↔ ∃ e ∈ q, e.state = .issued n := by
  simp [issuedTags, PostState.tag?_eq_some]

theorem nodup_issuedTags (q : List PostEntry) :
    (issuedTags q).Nodup ↔ q.Pairwise (fun a b => ∀ n, a.state = .issued n → b.state ≠ .issued n) := by
  rw [issuedTags, List.Nodup, List.pairwise_filterMap]
  simp only [PostState.tag?_eq_some]
  refine ⟨fun h => h.imp fun hab n ha hb => hab n ha n hb rfl, fun h => h.imp fun hab n ha m hb hnm => ?_⟩
  exact hab n ha (hnm ▸ hb)

/-! ### A buffer's place in the memory port -/

@[simp] theorem Buffer.isInFlight_empty : Buffer.empty.isInFlight = false := rfl

@[simp] theorem Buffer.isInFlight_valid (b : Word) (n : Nat) (data : List Byte) :
    (Buffer.valid b n data).isInFlight = false := rfl

@[simp] theorem Buffer.isInFlight_filling (b : Word) (n : Nat) (v : Bool) (pos : FillPos) :
    (Buffer.filling b n v pos).isInFlight = decide (pos = .inFlight) := by
  cases pos <;> rfl

@[simp] theorem Buffer.isInFlight_cancelled (b : Buffer) (k : Bool) : (b.cancelled k).isInFlight = b.isInFlight := by
  rcases b with - | ⟨b, n, v, - | -⟩ | ⟨b, n, data⟩ <;> cases k <;> rfl

@[simp] theorem Buffer.isInFlight_afterUse (b : Buffer) (keep : Bool) :
    (b.afterUse keep).isInFlight = b.isInFlight := by
  cases b <;> cases keep <;> rfl

@[simp] theorem Buffer.isInFlight_swept (b : Buffer) (e : PostEntry) : (b.swept e).isInFlight = b.isInFlight := by
  unfold Buffer.swept
  split
  · rfl
  · split <;> rfl
  · next pos => split <;> cases pos <;> rfl

/-! ### What leaves the memory port alone -/

/-- From s to t the tags, the response channel, the fills in flight and the ISSUED entries' tags stay. -/
structure State.LeavesPort (s t : State) : Prop where
  tags : t.tags = s.tags
  respChannel : t.respChannel = s.respChannel
  inFlight : ∀ id, (t.buffer id).isInFlight = (s.buffer id).isInFlight
  issued : issuedTags t.postQueue = issuedTags s.postQueue

section
variable {s t u : State} {parts : List Part}

theorem State.LeavesPort.tag (h : s.LeavesPort t) (n : TagNo) : t.tag n = s.tag n := by
  rw [State.tag, h.tags, State.tag]

theorem State.LeavesPort.refl (s : State) : s.LeavesPort s := ⟨rfl, rfl, fun _ => rfl, rfl⟩

theorem State.LeavesPort.trans (h : s.LeavesPort t) (g : t.LeavesPort u) : s.LeavesPort u :=
  ⟨g.tags.trans h.tags, g.respChannel.trans h.respChannel, fun id => (g.inFlight id).trans (h.inFlight id),
    g.issued.trans h.issued⟩

/-- Buffers change, but no fill comes to or leaves memory. -/
theorem State.LeavesPort.of_buffers (ho : s.OnlyChanges t parts)
    (hparts : ∀ q ∈ [Part.tags, .respChannel, .postQueue], q ∉ parts)
    (hbuffer : ∀ id, (t.buffer id).isInFlight = (s.buffer id).isInFlight) : s.LeavesPort t where
  tags := ho .tags (hparts _ (by simp))
  respChannel := ho .respChannel (hparts _ (by simp))
  inFlight := hbuffer
  issued := congrArg issuedTags (ho .postQueue (hparts _ (by simp)))

theorem State.OnlyChanges.leavesPort (ho : s.OnlyChanges t parts)
    (hparts : ∀ q ∈ [Part.tags, .respChannel, .postQueue, .buffers], q ∉ parts) : s.LeavesPort t :=
  .of_buffers ho (fun q hq => hparts q (List.mem_append_left [Part.buffers] hq))
    (fun id => congrArg (fun g : Grid Buffer => (g.get id).isInFlight) (ho .buffers (hparts _ (by simp))))

theorem State.LeavesPort.elsewhere (h : s.LeavesPort t) (ho : t.OnlyChanges u parts)
    (hparts : ∀ q ∈ [Part.tags, .respChannel, .postQueue, .buffers], q ∉ parts) : s.LeavesPort u :=
  h.trans (ho.leavesPort hparts)

end

/-! ### Requests of cursors -/

section
variable (s : State) (id : CursorId)

theorem State.leavesPort_setBuffer {b : Buffer} (hb : b.isInFlight = (s.buffer id).isInFlight) :
    s.LeavesPort (s.setBuffer id b) :=
  .of_buffers (s.onlyChanges_setBuffer id b) (by decide) (fun x => by
    by_cases hx : x = id <;> simp [hx, hb])

theorem State.leavesPort_cancelRead (k : Bool) : s.LeavesPort (s.cancelRead id k) :=
  .of_buffers (s.onlyChanges_cancelRead id k) (by decide) (fun x => by
    by_cases hx : x = id <;> simp [hx])

theorem State.leavesPort_openBody (S : Seg) (offset : Word) (stride : BitVec 16) (expected : Option (BitVec 8)) :
    s.LeavesPort (openBody id S offset stride expected s).1 := by
  have hopened : ∀ c, s.LeavesPort ((s.setCursor id c).joinQueue id) := fun c =>
    ((s.onlyChanges_setCursor id c).trans (State.onlyChanges_joinQueue _ id)).leavesPort (by decide)
  unfold openBody
  dsimp only
  split
  · exact hopened _
  · exact hopened _
  · exact .refl s

theorem State.leavesPort_closeCursor : s.LeavesPort (s.closeCursor id) := by
  by_cases hc : (s.cursor id).state = .closed
  · rw [State.closeCursor_of_closed s id hc]; exact .refl s
  · rw [State.closeCursor_of_open s id hc]
    have hleft := ((s.onlyChanges_releaseOf (s.cursor id)).trans (State.onlyChanges_leaveQueue _ id)).leavesPort
      (by decide)
    exact (hleft.trans (State.leavesPort_cancelRead _ id false)).elsewhere (State.onlyChanges_setCursor _ id _)
      (by decide)

theorem State.leavesPort_seekBody (offset : Word) (stride : Option (BitVec 16)) :
    s.LeavesPort (seekBody id offset stride s).1 := by
  have hheld : ((s.cursor id).state = .bound ∨ ∃ e, (s.cursor id).state = .exhausted e) →
      s.LeavesPort (seekBody id offset stride s).1 := by
    intro hst
    cases hseg : (s.cursor id).segment with
    | none => rw [seekBody_noSegment hst hseg]; exact .refl s
    | some S =>
      by_cases hin : offset.toNat < (s.desc S).length
      · rw [seekBody_taken hst hseg hin]
        exact (s.leavesPort_cancelRead id true).elsewhere (State.onlyChanges_setCursor _ id _) (by decide)
      · rw [seekBody_outOfRange hst hseg (Nat.not_lt.1 hin)]; exact .refl s
  cases hst : (s.cursor id).state with
  | closed => rw [seekBody_closed hst]; exact .refl s
  | faulted => rw [seekBody_faulted hst]; exact .refl s
  | binding => rw [seekBody_mapping (by rw [hst]; rfl)]; exact .refl s
  | crossing => rw [seekBody_mapping (by rw [hst]; rfl)]; exact .refl s
  | revalidating => rw [seekBody_mapping (by rw [hst]; rfl)]; exact .refl s
  | bound => exact hheld (.inl hst)
  | exhausted e => exact hheld (.inr ⟨e, hst⟩)

end

/-! ### READ and WRITE -/

section
variable (s : State) (id : CursorId) (S : Seg) (z : AccessSize)

theorem State.leavesPort_readMiss (hb : (s.buffer id).isInFlight = false) : s.LeavesPort (readMiss id S z s).1 :=
  (((s.onlyChanges_setSlot id _).leavesPort (by decide)).trans
    (State.leavesPort_setBuffer _ id (by simp [hb]))).elsewhere (State.onlyChanges_setFillList _ _) (by decide)

/-- A hit, and a collection of data: the buffer after its use, and an advance (R98, R102). -/
theorem State.leavesPort_readDone {u : State} (hu : s.LeavesPort u) (bytes : List Byte) (n : Nat) (keep : Bool) :
    s.LeavesPort (readDone id S z bytes n (u.setBuffer id ((s.buffer id).afterUse keep))).1 :=
  (hu.trans (u.leavesPort_setBuffer id (by rw [Buffer.isInFlight_afterUse, hu.inFlight]))).elsewhere
    (State.onlyChanges_advance _ id S 1) (by decide)

theorem State.leavesPort_readCollect (r : ReadResult) : s.LeavesPort (readCollect id S z r s).1 := by
  have hcollected := (s.onlyChanges_collectSlot id).leavesPort (by decide)
  cases r with
  | data bytes => exact State.leavesPort_readDone s id S z hcollected bytes _ _
  | memoryError => exact hcollected
  | memoryTimeout => exact hcollected

theorem State.leavesPort_readAhead : s.LeavesPort (readAhead id S z s).1 := by
  cases hslot : s.slot id with
  | empty =>
    cases hbuffer : s.buffer id with
    | empty =>
      rw [readAhead_miss hslot (.inl hbuffer)]
      exact s.leavesPort_readMiss id S z (by simp [hbuffer])
    | valid b n data =>
      cases hin : inside (physical (s.desc S) (s.cursor id)) z.bytes b n with
      | true =>
        rw [readAhead_hit hslot hbuffer hin]
        exact s.leavesPort_readDone id S z (.refl s) _ _ _
      | false =>
        rw [readAhead_miss hslot (.inr ⟨b, n, data, hbuffer, hin⟩)]
        exact s.leavesPort_readMiss id S z (by simp [hbuffer])
    | filling b n void pos =>
      rw [readAhead_retarget hslot hbuffer]
      exact ((s.onlyChanges_setSlot id _).leavesPort (by decide)).trans
        (State.leavesPort_setBuffer _ id (by simp [hbuffer]))
  | working y =>
    by_cases hy : y = z
    · subst hy; rw [readAhead_again hslot]; exact .refl s
    · rw [readAhead_mismatch hy (.inl hslot)]; exact .refl s
  | ready y r i =>
    by_cases hy : y = z
    · subst hy; rw [readAhead_collect hslot]; exact s.leavesPort_readCollect id S y r
    · rw [readAhead_mismatch hy (.inr ⟨r, i, hslot⟩)]; exact .refl s

theorem State.leavesPort_readBody : s.LeavesPort (readBody id z s).1 := by
  unfold readBody
  split
  · exact .refl s
  · exact s.leavesPort_readAhead id _ z

/-- The sweep leaves fills in flight there, and the new entry is not ISSUED (R123, R124). -/
theorem State.leavesPort_post {e : PostEntry} (he : e.state = .queued) :
    s.LeavesPort ((s.setPostQueue (s.postQueue ++ [e])).sweep e) where
  tags := rfl
  respChannel := rfl
  inFlight x := by simp
  issued := by simp [issuedTags, he, PostState.tag?]

theorem State.leavesPort_writeBody (data : List Word) : s.LeavesPort (writeBody id z data s).1 := by
  unfold writeBody
  split
  · exact .refl s
  · next S _ =>
    split
    · exact .refl s
    · split
      · exact .refl s
      · split
        · exact .refl s
        · exact (s.leavesPort_post rfl).elsewhere (State.onlyChanges_advance _ id S 1) (by decide)

end

/-! ### Requests of the stack -/

section
variable (s : State) (id : CursorId)

theorem State.leavesPort_pushBody : s.LeavesPort (pushBody id s).1 := by
  have hheld : ∀ S side mark, s.LeavesPort (pushHeld id S side mark s).1 := by
    intro S side mark
    unfold pushHeld
    dsimp only
    split
    · exact .refl s
    · exact ((s.onlyChanges_setStack id.port _).trans (State.onlyChanges_claim _ S)).leavesPort (by decide)
  unfold pushBody
  split
  · exact hheld ..
  · exact hheld ..
  · exact hheld ..
  · exact .refl s

theorem State.leavesPort_popBody (k : Nat) : s.LeavesPort (popBody id k s).1 := by
  unfold popBody
  split
  · exact .refl s
  · split
    · exact .refl s
    · next x rest _ =>
      have hcleared : s.LeavesPort (s.popClear id) :=
        ((s.onlyChanges_releaseOf _).leavesPort (by decide)).trans (State.leavesPort_cancelRead _ id false)
      exact hcleared.elsewhere ((State.onlyChanges_setStack _ id.port rest).trans
        (State.onlyChanges_restore _ id x k)) (by decide)

theorem State.leavesPort_dropBody (p : Port) : s.LeavesPort (dropBody p s).1 := by
  unfold dropBody
  split
  · exact .refl s
  · exact ((s.onlyChanges_setStack p _).trans (State.onlyChanges_letGo _ _)).leavesPort (by decide)

end

/-! ### COMMIT and RETIRE -/

section
variable (s : State)

theorem State.leavesPort_commitBody (p : Port) (S : Seg) : s.LeavesPort (commitBody p S s).1 := by
  have hdone : ∀ d, s.LeavesPort (commitDone p S d s).1 := fun d =>
    (s.onlyChanges_commitDone p S d).leavesPort (by decide)
  have hreplaced : ∀ u : State, u.LeavesPort (u.broadcastReplace S) := fun u =>
    .of_buffers (u.onlyChanges_broadcastReplace S) (by decide) (fun x => by
      rw [State.buffer_broadcastReplace]; split <;> simp)
  unfold commitBody
  dsimp only
  split
  · exact .refl s
  · split
    · exact .refl s
    · split
      · exact .refl s
      · split
        · exact .refl s
        · exact hdone _
    · split
      · exact .refl s
      · exact (hdone _).trans (hreplaced _)

theorem State.leavesPort_forceRetire (S : Seg) : s.LeavesPort (s.forceRetire S) := by
  have hrevoked : s.LeavesPort (s.broadcastRevoke S) :=
    .of_buffers (s.onlyChanges_broadcastRevoke S) (by decide) (fun x => by
      rw [State.buffer_broadcastRevoke]; split <;> simp)
  exact hrevoked.elsewhere (((State.onlyChanges_notifyAllRevoked _ s S).trans
    (State.onlyChanges_notifyForced _ S _)).trans (State.onlyChanges_setDesc _ S _)) (by decide)

theorem State.leavesPort_retireBody (p : Port) (forced : Bool) (S : Seg) :
    s.LeavesPort (retireBody p forced S s).1 := by
  have hdesc : ∀ d, s.LeavesPort (s.setDesc S d) := fun d => (s.onlyChanges_setDesc S d).leavesPort (by decide)
  unfold retireBody
  dsimp only
  split
  · exact .refl s
  · split
    · exact hdesc _
    · split
      · exact s.leavesPort_forceRetire S
      · exact hdesc _
  · split
    · exact s.leavesPort_forceRetire S
    · exact .refl s

/-! ### The port requests -/

theorem State.leavesPort_setPort (p : Port) (r : PortRec) : s.LeavesPort (s.setPort p r) :=
  (s.onlyChanges_setPort p r).leavesPort (by decide)

theorem State.leavesPort_fetchBody (p : Port) : s.LeavesPort (fetchBody p s).1 := by
  have hset : ∀ q, s.LeavesPort (s.setNotices p q) := fun q => (s.onlyChanges_setNotices p q).leavesPort (by decide)
  unfold fetchBody
  dsimp only
  split
  · exact hset _
  · exact hset _

theorem State.leavesPort_setPortBody (q : Port) (a : Option Authority) (pr : Option Priority) (n : Option Nat)
    (i : Option Interval) : s.LeavesPort (setPortBody q a pr n i s).1 := by
  unfold setPortBody
  dsimp only
  split
  · exact .refl s
  · exact s.leavesPort_setPort ..

theorem State.leavesPort_releasePortBody (q : Port) : s.LeavesPort (releasePortBody q s).1 := by
  unfold releasePortBody
  split
  · exact .refl s
  · exact (s.leavesPort_setPort ..).elsewhere (State.onlyChanges_notify _ _ _) (by decide)

/-- A port reset leaves its cursors' fills in flight, void, and its posted writes where they are (R170). -/
theorem State.leavesPort_resetPort (q : Port) : s.LeavesPort (s.resetPort q) := by
  have hcursors : s.LeavesPort ((s.setNotices q ⟨[], false⟩).resetCursors q) :=
    List.foldlRecOn (motive := fun u : State => s.LeavesPort u) allCursorNos _
      ((s.onlyChanges_setNotices q _).leavesPort (by decide))
      (fun u hu c _ => hu.trans (u.leavesPort_closeCursor ⟨q, c⟩))
  have hstack : s.LeavesPort (((s.setNotices q ⟨[], false⟩).resetCursors q).resetStack q) :=
    List.foldlRecOn (motive := fun u : State => s.LeavesPort u) _ _
      (hcursors.elsewhere (State.onlyChanges_setStack _ q []) (by decide))
      (fun u hu x _ => hu.elsewhere (u.onlyChanges_letGo x) (by decide))
  exact hstack.trans (State.leavesPort_setPort ..)

/-! ### Placement services and discards -/

theorem State.leavesPort_serveEntry (p : Port) (level : Priority) : s.LeavesPort (s.serveEntry p level) := by
  unfold State.serveEntry
  split
  · exact .refl s
  · next c rest _ =>
    exact (((s.onlyChanges_setMapQueue p rest).trans (State.onlyChanges_setMark _ level p)).trans
      (State.onlyChanges_place _ ⟨p, c⟩)).leavesPort (by decide)

theorem State.leavesPort_discard (id : CursorId) : s.LeavesPort (s.discard id) := by
  have hslot := (s.onlyChanges_setSlot id .empty).leavesPort (by decide)
  unfold State.discard
  split
  · exact hslot.elsewhere (State.onlyChanges_countExpiry _ _) (by decide)
  · exact (hslot.trans (State.leavesPort_setBuffer _ id (by simp))).elsewhere
      ((State.onlyChanges_notify _ _ _).trans (State.onlyChanges_countExpiry _ _)) (by decide)

end

/-! ### A command -/

/-- What a command from s to t does to the memory port: nothing, or one of the port's own events. -/
inductive State.PortEvent (s t : State) : Prop
  | aside (h : s.LeavesPort t)
  /-- A FREE tag is offered to the candidates (R141). -/
  | grant (n : TagNo) (hfree : s.tag n = .free) (h : t = s.grantTo n)
  /-- A response begins on an idle channel (R145). -/
  | firstBeat (n : TagNo) (error : Bool) (data : Lines) (hidle : s.respChannel = .idle)
      (h : t = s.beginResponse n error data)
  /-- A response ends (R145, R146, R148). -/
  | response (n : TagNo) (error : Bool) (beats : List Lines) (h : t = s.endResponse n error beats)
  /-- A running response timer expires (R147). -/
  | expiry (n : TagNo) {owner : TagOwner} {count k : Nat} (hbusy : s.tag n = .busy owner count (.running k))
      (h : t = (s.setTag n .abandoned).deliver n owner .timeout)
  /-- The part is reset (R173). -/
  | reset (htag : ∀ n, t.tag n = .free) (hbuffer : ∀ id, t.buffer id = .empty) (hqueue : t.postQueue = [])
      (hchannel : t.respChannel = .idle)

section
variable {s t : State}

theorem serve_portEvent {i : Instr} {p : Port} {f : Option ArgField} {tb qt : Bool} {body : State → State × Response}
    (hs : serve i p f tb qt body s = .next t) (hbody : s.LeavesPort (body s).1) : s.PortEvent t := by
  rcases serve_cases i p f tb qt body s with ⟨-, e⟩ | ⟨r, -, -, e⟩ | ⟨-, -, e⟩ <;> rw [e] at hs <;> cases hs
  · exact .aside ((s.onlyChanges_holdRequest p i).leavesPort (by decide))
  · exact .aside ((s.onlyChanges_answer p _).leavesPort (by decide))
  · exact .aside (hbody.elsewhere (State.onlyChanges_answer _ p _) (by decide))

theorem refuseForm_portEvent {i : Instr} {p : Port} (hs : refuseForm i p s = .next t) : s.PortEvent t := by
  unfold refuseForm at hs
  split at hs <;> cases hs
  · exact .aside ((s.onlyChanges_answer p _).leavesPort (by decide))
  · exact .aside ((s.onlyChanges_holdRequest p i).leavesPort (by decide))

theorem execWrite_portEvent {p : Port} {n : BitVec 4} {z : BitVec 3} {data : List Word}
    (hs : execWrite p n z data s = .next t) : s.PortEvent t := by
  unfold execWrite at hs
  split at hs
  · exact serve_portEvent hs (s.leavesPort_writeBody ..)
  · exact refuseForm_portEvent hs

theorem execPlacementService_portEvent (hs : execPlacementService s = .next t) : s.PortEvent t := by
  unfold execPlacementService at hs
  split at hs <;> cases hs
  · exact .aside (.refl s)
  · exact .aside (s.leavesPort_serveEntry ..)

theorem execGrant_portEvent {ready : Bool} (hs : execGrant ready s = .next t) : s.PortEvent t := by
  unfold execGrant at hs
  split at hs
  · split at hs <;> cases hs
    · exact .aside (.refl s)
    · next n hn => exact .grant n (State.tag_of_freeTag hn) rfl
  · cases hs; exact .aside (.refl s)

theorem execFirstBeat_portEvent {n : TagNo} {error : Bool} {data : Lines}
    (hs : execFirstBeat n error data s = .next t) : s.PortEvent t := by
  unfold execFirstBeat at hs
  split at hs <;> cases hs
  · next hidle => exact .firstBeat n error data hidle rfl
  · exact .aside (.refl s)
  · exact .aside (.refl s)

theorem execResponseTimerExpiry_portEvent {n : TagNo} (hs : execResponseTimerExpiry n s = .next t) :
    s.PortEvent t := by
  unfold execResponseTimerExpiry at hs
  split at hs <;> cases hs
  · next hbusy => exact .expiry n hbusy rfl
  · exact .aside (.refl s)
  · exact .aside (.refl s)
  · exact .aside (.refl s)

theorem execDiscardTimerExpiry_portEvent {p : Port} {c : CursorNo} (hs : execDiscardTimerExpiry p c s = .next t) :
    s.PortEvent t := by
  unfold execDiscardTimerExpiry at hs
  split at hs <;> cases hs
  · exact .aside (s.leavesPort_discard _)
  · exact .aside (.refl s)
  · exact .aside (.refl s)

theorem execDeviceReset_portEvent {straps : BitVec 4} (hs : execDeviceReset straps s = .next t) : s.PortEvent t := by
  cases hs
  exact .reset State.reset_tag State.reset_buffer rfl rfl

/-- Every command is one of the memory port's events or leaves it alone. -/
theorem exec_portEvent {i : Instr} (hs : exec i s = .next t) : s.PortEvent t := by
  cases i <;> simp only [exec, execOpen, execClose, execSeek, execRead, execQueryCursor, execPush, execPop, execDrop,
    execStage, execCommit, execRetire, execQuerySegment, execFetchNotice, execSetPort, execReleasePort, execResetPort,
    execBadRequest, execMemoryResponse, execLateOrStray, execLastWordPassed] at hs
  case openCursor => exact serve_portEvent hs (s.leavesPort_openBody ..)
  case closeCursor => exact serve_portEvent hs (s.leavesPort_closeCursor _)
  case seek => exact serve_portEvent hs (s.leavesPort_seekBody ..)
  case read => exact serve_portEvent hs (s.leavesPort_readBody ..)
  case write => exact execWrite_portEvent hs
  case queryCursor => exact serve_portEvent hs (.refl s)
  case push => exact serve_portEvent hs (s.leavesPort_pushBody _)
  case pop => exact serve_portEvent hs (s.leavesPort_popBody ..)
  case drop => exact serve_portEvent hs (s.leavesPort_dropBody _)
  case stage => exact serve_portEvent hs (s.leavesPort_setPort ..)
  case commit => exact serve_portEvent hs (s.leavesPort_commitBody ..)
  case retire => exact serve_portEvent hs (s.leavesPort_retireBody ..)
  case querySegment => exact serve_portEvent hs (.refl s)
  case fetchNotice => exact serve_portEvent hs (s.leavesPort_fetchBody _)
  case setPort => exact serve_portEvent hs (s.leavesPort_setPortBody ..)
  case releasePort => exact serve_portEvent hs (s.leavesPort_releasePortBody _)
  case resetPort => exact serve_portEvent hs (s.leavesPort_resetPort _)
  case badRequest => exact refuseForm_portEvent hs
  case placementService => exact execPlacementService_portEvent hs
  case grant => exact execGrant_portEvent hs
  case responseFirstBeat => exact execFirstBeat_portEvent hs
  case memoryResponse => cases hs; exact .response _ _ _ rfl
  case lateOrStrayResponse => cases hs; exact .response _ _ _ rfl
  case responseTimerExpiry => exact execResponseTimerExpiry_portEvent hs
  case discardTimerExpiry => exact execDiscardTimerExpiry_portEvent hs
  case deviceReset => exact execDeviceReset_portEvent hs
  case responseLastWordPassed => cases hs; exact .aside ((s.onlyChanges_reoffer _).leavesPort (by decide))

end

end Sys2Proof.Machine
end

section
/-! ## Every step keeps the tags paired (O58)

TagsPaired speaks of the owners of the tags, the fills in flight and the tags of the ISSUED entries alone: each owner has
its fill or entry, and each of these its owner. A grant adds one such pair, a delivery takes one away. -/

namespace Sys2Proof.Machine

/-! ### Owners (R137) -/

/-- The owner a BUSY tag records. -/
def Tag.owner : Tag → Option TagOwner
  | .busy o _ _ => some o
  | .free => none
  | .abandoned => none

@[simp] theorem Tag.owner_free : Tag.free.owner = none := rfl

@[simp] theorem Tag.owner_abandoned : Tag.abandoned.owner = none := rfl

@[simp] theorem Tag.owner_busy (o : TagOwner) (c : Nat) (r : RespTimer) : (Tag.busy o c r).owner = some o := rfl

theorem Tag.owner_eq_some (x : Tag) (o : TagOwner) : x.owner = some o ↔ ∃ c r, x = .busy o c r := by
  cases x <;> simp [Tag.owner]

/-- TagsPaired, over owners (R139). -/
structure State.Paired (s : State) : Prop where
  fill : ∀ id, (s.buffer id).isInFlight = true ↔ ∃ n, (s.tag n).owner = some (.fill id)
  write : ∀ n, n ∈ issuedTags s.postQueue ↔ (s.tag n).owner = some .write
  one : ∀ m n id, (s.tag m).owner = some (.fill id) → (s.tag n).owner = some (.fill id) → m = n
  nodup : (issuedTags s.postQueue).Nodup

theorem State.tagsPaired_iff (s : State) : s.TagsPaired ↔ s.Paired := by
  constructor
  · rintro ⟨hfill, hwrite, hflight, hissued, hone, hapart⟩
    refine ⟨fun id => ⟨fun hb => ?_, ?_⟩, fun n => ?_, fun m n id hm hn => ?_, (nodup_issuedTags _).2 hapart⟩
    · obtain ⟨n, c, r, ht⟩ := hflight id hb
      exact ⟨n, by rw [ht]; rfl⟩
    · rintro ⟨n, hn⟩
      obtain ⟨c, r, ht⟩ := (Tag.owner_eq_some _ _).1 hn
      exact hfill n id c r ht
    · rw [mem_issuedTags, Tag.owner_eq_some]
      exact ⟨fun ⟨e, he, hen⟩ => hissued e he n hen, fun ⟨c, r, ht⟩ => hwrite n c r ht⟩
    · obtain ⟨c, r, htm⟩ := (Tag.owner_eq_some _ _).1 hm
      obtain ⟨c', r', htn⟩ := (Tag.owner_eq_some _ _).1 hn
      exact hone m n id c c' r r' htm htn
  · intro h
    refine ⟨fun n id c r ht => (h.fill id).2 ⟨n, by rw [ht]; rfl⟩, fun n c r ht => ?_, fun id hb => ?_,
      fun e he n hen => ?_, fun m n id c c' r r' hm hn => h.one m n id (by rw [hm]; rfl) (by rw [hn]; rfl),
      (nodup_issuedTags _).1 h.nodup⟩
    · exact (mem_issuedTags _ _).1 ((h.write n).2 (by rw [ht]; rfl))
    · obtain ⟨n, hn⟩ := (h.fill id).1 hb
      exact ⟨n, (Tag.owner_eq_some _ _).1 hn⟩
    · exact (Tag.owner_eq_some _ _).1 ((h.write n).1 ((mem_issuedTags _ _).2 ⟨e, he, hen⟩))

/-! ### The pairs a change of one tag makes and breaks -/

namespace State.Paired

variable {s t : State} {n : TagNo} {id : CursorId}

section
variable {o : Option TagOwner} (howner : ∀ m, (t.tag m).owner = if m = n then o else (s.tag m).owner)
include howner

/-- Fills that neither the old nor the new owner of the changed tag names keep their tags. -/
theorem exists_owner_iff {x : CursorId} (hold : (s.tag n).owner ≠ some (.fill x)) (hnew : o ≠ some (.fill x)) :
    (∃ m, (t.tag m).owner = some (.fill x)) ↔ ∃ m, (s.tag m).owner = some (.fill x) := by
  refine exists_congr fun m => ?_
  rw [howner]
  split
  · next hm => subst hm; simp [hold, hnew]
  · rfl

/-- A fill still has one tag at most when the fill that gets one had none. -/
theorem one_owner (hone : ∀ l m x, (s.tag l).owner = some (.fill x) → (s.tag m).owner = some (.fill x) → l = m)
    (hnew : ∀ x, o = some (.fill x) → ∀ k, (s.tag k).owner ≠ some (.fill x)) (l m : TagNo) (x : CursorId)
    (hl : (t.tag l).owner = some (.fill x)) (hm : (t.tag m).owner = some (.fill x)) : l = m := by
  rw [howner] at hl hm
  by_cases hln : l = n <;> by_cases hmn : m = n
  · rw [hln, hmn]
  · rw [if_pos hln] at hl; rw [if_neg hmn] at hm; exact absurd hm (hnew x hl m)
  · rw [if_neg hln] at hl; rw [if_pos hmn] at hm; exact absurd hl (hnew x hm l)
  · rw [if_neg hln] at hl; rw [if_neg hmn] at hm; exact hone l m x hl hm

end

variable (h : s.Paired)
include h

theorem congr (howner : ∀ m, (t.tag m).owner = (s.tag m).owner)
    (hflight : ∀ x, (t.buffer x).isInFlight = (s.buffer x).isInFlight)
    (hissued : issuedTags t.postQueue = issuedTags s.postQueue) : t.Paired where
  fill x := by simp only [hflight, howner]; exact h.fill x
  write m := by rw [hissued, howner]; exact h.write m
  one l m x := by rw [howner, howner]; exact h.one l m x
  nodup := by rw [hissued]; exact h.nodup

/-- A tag without owner is given to a fill that is not at memory. -/
theorem sendFill (hfree : (s.tag n).owner = none) (hwait : (s.buffer id).isInFlight = false)
    (howner : ∀ m, (t.tag m).owner = if m = n then some (.fill id) else (s.tag m).owner)
    (hflight : ∀ x, (t.buffer x).isInFlight = if x = id then true else (s.buffer x).isInFlight)
    (hissued : issuedTags t.postQueue = issuedTags s.postQueue) : t.Paired where
  fill x := by
    rw [hflight]
    split
    · next hx => exact ⟨fun _ => ⟨n, by rw [howner, if_pos rfl, hx]⟩, fun _ => rfl⟩
    · next hx => rw [exists_owner_iff howner (by simp [hfree]) (by simp [Ne.symm hx])]; exact h.fill x
  write m := by
    rw [hissued, h.write, howner]
    by_cases hm : m = n <;> simp [hm, hfree]
  one := one_owner howner h.one fun x hx k hk => by
    cases hx
    rw [(h.fill id).2 ⟨k, hk⟩] at hwait
    cases hwait
  nodup := by rw [hissued]; exact h.nodup

/-- A tag without owner is given to a write. -/
theorem sendWrite (hfree : (s.tag n).owner = none)
    (howner : ∀ m, (t.tag m).owner = if m = n then some .write else (s.tag m).owner)
    (hflight : ∀ x, (t.buffer x).isInFlight = (s.buffer x).isInFlight)
    (hissued : (issuedTags t.postQueue).Perm (n :: issuedTags s.postQueue)) : t.Paired where
  fill x := by rw [hflight, exists_owner_iff howner (by simp [hfree]) nofun]; exact h.fill x
  write m := by
    rw [hissued.mem_iff, List.mem_cons, h.write, howner]
    by_cases hm : m = n <;> simp [hm]
  one := one_owner howner h.one nofun
  nodup := by
    rw [hissued.nodup_iff, List.nodup_cons, h.write, hfree]
    exact ⟨nofun, h.nodup⟩

/-- The tag of a fill loses its owner, and the fill is at memory no more. -/
theorem endFill (howned : (s.tag n).owner = some (.fill id))
    (howner : ∀ m, (t.tag m).owner = if m = n then none else (s.tag m).owner)
    (hflight : ∀ x, (t.buffer x).isInFlight = if x = id then false else (s.buffer x).isInFlight)
    (hissued : issuedTags t.postQueue = issuedTags s.postQueue) : t.Paired where
  fill x := by
    rw [hflight]
    split
    · next hx =>
      refine ⟨nofun, fun ⟨m, hm⟩ => ?_⟩
      rw [howner] at hm
      split at hm
      · cases hm
      · next hmn => exact absurd (h.one m n id (hx ▸ hm) howned) hmn
    · next hx => rw [exists_owner_iff howner (by simp [howned, Ne.symm hx]) nofun]; exact h.fill x
  write m := by
    rw [hissued, h.write, howner]
    by_cases hm : m = n <;> simp [hm, howned]
  one := one_owner howner h.one nofun
  nodup := by rw [hissued]; exact h.nodup

/-- The tag of a write loses its owner, and the entry ISSUED under it is gone. -/
theorem endWrite (howned : (s.tag n).owner = some .write)
    (howner : ∀ m, (t.tag m).owner = if m = n then none else (s.tag m).owner)
    (hflight : ∀ x, (t.buffer x).isInFlight = (s.buffer x).isInFlight)
    (hissued : issuedTags t.postQueue = (issuedTags s.postQueue).filter (fun m => decide (m ≠ n))) : t.Paired where
  fill x := by rw [hflight, exists_owner_iff howner (by simp [howned]) nofun]; exact h.fill x
  write m := by
    rw [hissued, List.mem_filter, h.write, howner]
    by_cases hm : m = n <;> simp [hm]
  one := one_owner howner h.one nofun
  nodup := by rw [hissued]; exact h.nodup.filter _

end State.Paired

/-! ### What grants and deliveries do to fills and entries -/

/-- Once delivered, a cursor's fill is not at memory (R107 to R109). -/
theorem State.isInFlight_fillArrival (s : State) (id x : CursorId) (d : Delivery) :
    ((s.fillArrival id d).buffer x).isInFlight = if x = id then false else (s.buffer x).isInFlight := by
  split
  · next hx =>
    subst hx
    unfold State.fillArrival
    split
    · unfold State.voidArrival
      split <;> simp
    · cases d <;> simp [State.liveArrival]
    · next hvoid hlive =>
      cases hb : s.buffer x with
      | empty => rfl
      | valid => rfl
      | filling b n v pos =>
        cases pos with
        | waiting => rfl
        | inFlight =>
          cases v with
          | true => exact absurd hb (hvoid b n)
          | false => exact absurd hb (hlive b n)
  · next hx => rw [(s.fillDelivered_fillArrival id d).2.1 x hx]

theorem issuedTags_filter (q : List PostEntry) (n : TagNo) :
    issuedTags (q.filter (fun x => decide (x.state ≠ .issued n))) =
      (issuedTags q).filter (fun m => decide (m ≠ n)) := by
  induction q with
  | nil => rfl
  | cons e q ih =>
    rw [issuedTags] at ih ⊢
    cases he : e.state with
    | queued => simpa [issuedTags, List.filter_cons, List.filterMap_cons, he, PostState.tag?] using ih
    | issued m =>
      by_cases hm : m = n <;> simpa [issuedTags, List.filter_cons, List.filterMap_cons, he, PostState.tag?, hm] using ih

/-- A completion takes the entry ISSUED under its tag out of the queue (R129, R130). -/
theorem State.issuedTags_writeCompletion (s : State) (n : TagNo) (d : Delivery) :
    issuedTags (s.writeCompletion n d).postQueue =
      (issuedTags s.postQueue).filter (fun m => decide (m ≠ n)) := by
  rw [← issuedTags_filter]
  unfold State.writeCompletion
  split
  · next hnone =>
    rw [List.filter_eq_self.2 fun e he => by simpa using List.find?_eq_none.1 hnone e he]
  · cases d <;> rfl

/-- An issue adds its tag to those of the ISSUED entries (R127). -/
theorem issuedTags_issue (n : TagNo) (front : List PostEntry) {e : PostEntry} (rest : List PostEntry)
    (he : e.state = .queued) :
    (issuedTags (front ++ { e with state := .issued n } :: rest)).Perm (n :: issuedTags (front ++ e :: rest)) := by
  simp only [issuedTags, List.filterMap_append, List.filterMap_cons, PostState.tag?, he]
  exact List.perm_middle

/-! ### The memory port's events keep the pairs -/

namespace State.Paired

variable {s : State} (h : s.Paired) {n : TagNo}
include h

theorem grantFill {id : CursorId} (hfree : s.tag n = .free) (hcand : s.fillCandidate = some id) :
    (s.grantFill n id).Paired := by
  obtain ⟨b, size, v, hbuffer, -⟩ := (s.fillEligible_iff id).1 (List.find?_some hcand)
  rw [State.grantFill_of_filling n hbuffer]
  refine h.sendFill (by rw [hfree]; rfl) (by simp [hbuffer]) (id := id) (n := n) (fun m => ?_) (fun x => ?_) rfl
  · by_cases hm : m = n <;> simp [State.startTag, hm]
  · by_cases hx : x = id <;> simp [State.startTag, hx]

theorem grantWrite {e : PostEntry} (hfree : s.tag n = .free) (hcand : s.writeCandidate = some e) :
    (s.grantWrite n e).Paired := by
  obtain ⟨holdest, -⟩ := (s.writeCandidate_eq_some e).1 hcand
  obtain ⟨front, rest, hq, hqueued, hfront⟩ := (oldestQueued_eq_some _ _).1 holdest
  refine h.sendWrite (by rw [hfree]; rfl) (n := n) (fun m => ?_) (fun x => rfl) ?_
  · by_cases hm : m = n <;> simp [State.grantWrite, State.startTag, hm]
  · rw [hq, show (s.grantWrite n e).postQueue = issueOldest n s.postQueue from rfl, hq,
      issueOldest_append n rest hfront hqueued]
    exact issuedTags_issue n front rest hqueued

theorem grantTo (hfree : s.tag n = .free) : (s.grantTo n).Paired := by
  cases hf : s.fillCandidate with
  | none =>
    cases hw : s.writeCandidate with
    | none => rw [State.grantTo_none n hf hw]; exact h
    | some e => rw [State.grantTo_write n hw (.inl hf)]; exact h.grantWrite hfree hw
  | some id =>
    cases hw : s.writeCandidate with
    | none => rw [State.grantTo_fill n hf (.inl hw)]; exact h.grantFill hfree hf
    | some e =>
      cases ha : s.alternation with
      | fillNext => rw [State.grantTo_fill n hf (.inr ha)]; exact h.grantFill hfree hf
      | writeNext => rw [State.grantTo_write n hw (.inr ha)]; exact h.grantWrite hfree hw

/-- A tag whose owner stays may change otherwise. -/
theorem setTag {x : Tag} (hx : x.owner = (s.tag n).owner) : (s.setTag n x).Paired :=
  h.congr (fun m => by by_cases hm : m = n <;> simp [hm, hx]) (fun _ => rfl) rfl

theorem setRespChannel (c : RespChannel) : (s.setRespChannel c).Paired :=
  h.congr (fun _ => rfl) (fun _ => rfl) rfl

/-- A tag gives up its owner, and the owner gets its delivery (R146, R147). -/
theorem deliver {owner : TagOwner} {x : Tag} (d : Delivery) (howned : (s.tag n).owner = some owner)
    (hx : x.owner = none) : ((s.setTag n x).deliver n owner d).Paired := by
  have howner : ∀ m, (((s.setTag n x).deliver n owner d).tag m).owner = if m = n then none else (s.tag m).owner :=
    fun m => by by_cases hm : m = n <;> simp [hm, hx]
  cases owner with
  | fill id =>
    exact h.endFill howned howner (State.isInFlight_fillArrival _ id · d)
      (congrArg issuedTags (State.fillArrival_postQueue _ id d))
  | write => exact h.endWrite howned howner (fun y => by simp [State.deliver]) (State.issuedTags_writeCompletion _ n d)

theorem beginResponse (n : TagNo) (error : Bool) (data : Lines) : (s.beginResponse n error data).Paired := by
  cases ht : s.tag n with
  | busy owner count timer =>
    rw [State.beginResponse_busy error data ht]
    exact (h.setTag (by rw [ht]; rfl)).setRespChannel _
  | abandoned =>
    rw [State.beginResponse_abandoned error data ht]
    exact (h.setTag (by rw [ht]; rfl)).setRespChannel _
  | free => rw [State.beginResponse_free error data ht]; exact h.setRespChannel _

theorem takeResponse (n : TagNo) (error : Bool) (beats : List Lines) : (s.takeResponse n error beats).Paired := by
  cases ht : s.tag n with
  | busy owner count timer =>
    rw [State.takeResponse_busy error beats ht]
    exact h.deliver _ (by rw [ht]; rfl) rfl
  | abandoned => rw [State.takeResponse_abandoned error beats ht]; exact h.setTag (by rw [ht]; rfl)
  | free => rw [State.takeResponse_free error beats ht]; exact h

theorem endResponse (n : TagNo) (error : Bool) (beats : List Lines) : (s.endResponse n error beats).Paired := by
  cases hc : s.respChannel with
  | idle => rw [State.endResponse_idle error beats hc]; exact h.takeResponse ..
  | begun m e first =>
    rw [State.endResponse_begun error beats hc]
    exact (h.setRespChannel .idle).takeResponse ..
  | discarding => rw [State.endResponse_discarding error beats hc]; exact h.setRespChannel _

end State.Paired

theorem State.PortEvent.paired {s t : State} (m : s.PortEvent t) (h : s.Paired) : t.Paired := by
  cases m with
  | aside ha => exact h.congr (fun n => by rw [ha.tag]) ha.inFlight ha.issued
  | grant n hfree ht => rw [ht]; exact h.grantTo hfree
  | firstBeat n error data hidle ht => rw [ht]; exact h.beginResponse n error data
  | response n error beats ht => rw [ht]; exact h.endResponse n error beats
  | expiry n hbusy ht => rw [ht]; exact h.deliver _ (by rw [hbusy]; rfl) rfl
  | reset htag hbuffer hqueue hchannel =>
    exact ⟨fun id => by simp [htag, hbuffer], fun n => by simp [htag, hqueue, issuedTags],
      fun l m id hl => by simp [htag] at hl, by rw [hqueue]; exact List.nodup_nil⟩

/-! ### Stopped timers (R145, R147) -/

def Tag.isStopped : Tag → Bool
  | .busy _ _ .stopped => true
  | _ => false

/-- The tag whose response is in progress. -/
def RespChannel.tag? : RespChannel → Option TagNo
  | .begun n _ _ => some n
  | _ => none

@[simp] theorem Tag.isStopped_free : Tag.free.isStopped = false := rfl

@[simp] theorem Tag.isStopped_abandoned : Tag.abandoned.isStopped = false := rfl

@[simp] theorem Tag.isStopped_running (o : TagOwner) (c k : Nat) : (Tag.busy o c (.running k)).isStopped = false := rfl

@[simp] theorem Tag.isStopped_stopped (o : TagOwner) (c : Nat) : (Tag.busy o c .stopped).isStopped = true := rfl

theorem Tag.isStopped_iff (x : Tag) : x.isStopped = true ↔ ∃ o c, x = .busy o c .stopped := by
  rcases x with - | ⟨o, c, k | -⟩ | - <;> simp [Tag.isStopped]

theorem RespChannel.tag?_eq_some (c : RespChannel) (n : TagNo) : c.tag? = some n ↔ ∃ e d, c = .begun n e d := by
  cases c <;> simp [RespChannel.tag?]

/-- StoppedInProgress, over tags: the timers stopped are those of the response in progress. -/
def State.Stopped (s : State) : Prop := ∀ n, (s.tag n).isStopped = true ↔ s.respChannel.tag? = some n

theorem State.stoppedInProgress_iff (s : State) : s.StoppedInProgress ↔ s.Stopped := by
  simp only [State.Stopped, Tag.isStopped_iff, RespChannel.tag?_eq_some]
  constructor
  · rintro ⟨hstopped, hbegun⟩ n
    exact ⟨fun ⟨o, c, ht⟩ => hstopped n o c ht, fun ⟨e, d, hc⟩ => hbegun n e d hc⟩
  · intro h
    exact ⟨fun n o c ht => (h n).1 ⟨o, c, ht⟩, fun n e d hc => (h n).2 ⟨e, d, hc⟩⟩

/-- A response taken leaves its tag FREE, whatever the tag was (R146, R148). -/
theorem State.tag_takeResponse (s : State) (n m : TagNo) (error : Bool) (beats : List Lines) :
    (s.takeResponse n error beats).tag m = if m = n then .free else s.tag m := by
  cases ht : s.tag n with
  | busy owner count timer => rw [State.takeResponse_busy error beats ht]; simp
  | abandoned => rw [State.takeResponse_abandoned error beats ht]; simp
  | free => rw [State.takeResponse_free error beats ht]; split <;> simp_all

/-- A grant starts a timer and stops none (R143). -/
theorem State.isStopped_grantTo {s : State} {n : TagNo} (hfree : s.tag n = .free) (m : TagNo) :
    ((s.grantTo n).tag m).isStopped = (s.tag m).isStopped := by
  have hstart : ∀ o c, ((s.startTag n o c).tag m).isStopped = (s.tag m).isStopped := fun o c => by
    by_cases hm : m = n <;> simp [State.startTag, hm, hfree]
  have hfill : ∀ id, ((s.grantFill n id).tag m).isStopped = (s.tag m).isStopped := fun id => by
    unfold State.grantFill
    split
    · exact hstart _ _
    · rfl
  unfold State.grantTo
  split
  · rfl
  · exact hfill _
  · exact hstart _ _
  · split
    · exact hfill _
    · exact hstart _ _

namespace State.Stopped

variable {s t : State} {n : TagNo} (h : s.Stopped)
include h

theorem congr (htag : ∀ m, (t.tag m).isStopped = (s.tag m).isStopped) (hc : t.respChannel = s.respChannel) :
    t.Stopped := fun m => by rw [htag, hc]; exact h m

/-- With no response in progress no timer is stopped. -/
theorem isStopped_eq_false (hc : s.respChannel.tag? = none) (m : TagNo) : (s.tag m).isStopped = false := by
  rw [← Bool.not_eq_true, h m, hc]
  nofun

theorem beginResponse (hidle : s.respChannel = .idle) (error : Bool) (data : Lines) :
    (s.beginResponse n error data).Stopped := by
  have hquiet := h.isStopped_eq_false (by rw [hidle]; rfl)
  intro m
  cases ht : s.tag n with
  | busy owner count timer =>
    rw [State.beginResponse_busy error data ht]
    by_cases hm : m = n
    · simp [hm, RespChannel.tag?]
    · simp [hm, hquiet, RespChannel.tag?, Ne.symm hm]
  | abandoned =>
    rw [State.beginResponse_abandoned error data ht]
    by_cases hm : m = n <;> simp [hm, hquiet, RespChannel.tag?]
  | free =>
    rw [State.beginResponse_free error data ht]
    simp [hquiet, RespChannel.tag?]

/-- The response of the only tag whose timer may be stopped is taken, and the channel is idle after it. -/
theorem takeResponse {u : State} (htags : u.tags = s.tags) (hidle : u.respChannel = .idle)
    (hn : ∀ m, s.respChannel.tag? = some m → m = n) (error : Bool) (beats : List Lines) :
    (u.takeResponse n error beats).Stopped := by
  intro m
  rw [State.tag_takeResponse, u.onlyChanges_takeResponse n error beats .respChannel (by decide), hidle, State.tag,
    htags]
  refine ⟨fun hstop => ?_, nofun⟩
  split at hstop
  · cases hstop
  · next hm => exact absurd (hn m ((h m).1 hstop)) hm

theorem endResponse (n : TagNo) (error : Bool) (beats : List Lines) : (s.endResponse n error beats).Stopped := by
  cases hc : s.respChannel with
  | idle =>
    rw [State.endResponse_idle error beats hc]
    exact h.takeResponse rfl hc (by rw [hc]; nofun) error beats
  | begun m e first =>
    rw [State.endResponse_begun error beats hc]
    refine h.takeResponse (u := s.setRespChannel .idle) rfl rfl (fun l hl => ?_) e _
    rw [hc] at hl
    exact (Option.some.inj hl).symm
  | discarding =>
    rw [State.endResponse_discarding error beats hc]
    intro m
    rw [State.tag_setRespChannel, h m, hc]
    rfl

theorem expire {owner : TagOwner} {count k : Nat} (hbusy : s.tag n = .busy owner count (.running k)) (d : Delivery) :
    ((s.setTag n .abandoned).deliver n owner d).Stopped :=
  h.congr (fun m => by by_cases hm : m = n <;> simp [hm, hbusy]) (by simp)

end State.Stopped

theorem State.PortEvent.stopped {s t : State} (m : s.PortEvent t) (h : s.Stopped) : t.Stopped := by
  cases m with
  | aside ha => exact h.congr (fun n => by rw [ha.tag]) ha.respChannel
  | grant n hfree ht =>
    rw [ht]
    exact h.congr (State.isStopped_grantTo hfree) (s.onlyChanges_grantTo n .respChannel (by decide))
  | firstBeat n error data hidle ht => rw [ht]; exact h.beginResponse hidle error data
  | response n error beats ht => rw [ht]; exact h.endResponse n error beats
  | expiry n hbusy ht => rw [ht]; exact h.expire hbusy .timeout
  | reset htag hbuffer hqueue hchannel => intro n; simp [htag, hchannel, RespChannel.tag?]

/-! ### A step -/

/-- The command taken leaves the queue of commands, and then the memory port has its event, or none. -/
theorem step_portEvent {s t : State} (hs : step s = .next t) : ∃ u, s.LeavesPort u ∧ u.PortEvent t := by
  unfold step at hs
  split at hs
  · cases hs; exact ⟨s, .refl s, .aside (.refl s)⟩
  · next c rest _ => exact ⟨{ s with pending := rest }, ⟨rfl, rfl, fun _ => rfl, rfl⟩, exec_portEvent hs⟩

/-- Settles O58: a step leaves the memory port alone or is one of its events, and each keeps both invariants. -/
theorem stepKeepsTagsPaired : Obligations.StepKeepsTagsPaired := by
  refine ⟨fun s t h hs => ?_, fun s t h hs => ?_⟩
  · rw [State.tagsPaired_iff] at h ⊢
    obtain ⟨u, htaken, hevent⟩ := step_portEvent hs
    exact hevent.paired ((State.PortEvent.aside htaken).paired h)
  · rw [State.stoppedInProgress_iff] at h ⊢
    obtain ⟨u, htaken, hevent⟩ := step_portEvent hs
    exact hevent.stopped ((State.PortEvent.aside htaken).stopped h)

end Sys2Proof.Machine
end

section
/-! ## Grants, responses and expiries (O47 to O52) -/

namespace Sys2Proof.Machine

/-- Settles O48: each event's condition fails in the equation of its case. -/
theorem eventsWithoutCauseChangeNothing : Obligations.EventsWithoutCauseChangeNothing := by
  intro s
  refine ⟨rfl, fun hbusy => exec_grant_noTag (s.freeTag_eq_none.2 hbusy), fun hf hw => ?_,
    fun n hquiet => exec_responseTimerExpiry_quiet hquiet, fun p c hslot => ?_,
    fun hc n e d => exec_firstBeat_busy e d hc⟩
  · cases hfree : s.freeTag with
    | none => exact exec_grant_noTag hfree
    | some n => rw [exec_grant hfree, State.grantTo_none n hf hw]
  · simp only [exec, execDiscardTimerExpiry]
    split
    · next hready => exact absurd hready (hslot _ _ _)
    · rfl
    · rfl

/-! ### Grants (R141 to R144) -/

/-- The code of a byte count that is a power of two up to 64 is its exponent (R144). -/
theorem countCode_two_pow {code : Nat} (h : code ≤ 6) : (countCode (2 ^ code)).toNat = code := by
  interval_cases code <;> rfl

/-- The levels of the lines give the request's fields (R144). -/
theorem MemRequest.lines_fields (r : MemRequest) :
    r.lines.kind = (match r.kind with | .read => 0 | .write => 1) ∧ r.lines.tag.toNat = r.tag.val ∧
      r.lines.address = r.addr ∧ r.lines.data = r.data ∧
      ∀ code : Nat, code ≤ 6 → r.byteCount = 2 ^ code → r.lines.byteCount.toNat = code := by
  refine ⟨?_, ?_, rfl, rfl, fun code hcode hcount => ?_⟩
  · cases hk : r.kind <;> simp [MemRequest.lines, MemKind.line, hk]
  · exact Nat.mod_eq_of_lt r.tag.isLt
  · rw [← countCode_two_pow hcode, ← hcount]
    rfl

section
variable (s : State) (n : TagNo)

theorem State.onlyChanges_grantFill (id : CursorId) :
    s.OnlyChanges (s.grantFill n id) [.tags, .buffers, .fillList, .alternation, .memRequest] := by
  unfold State.grantFill
  split
  · intro q hq
    cases q <;> simp_all [State.agree, State.startTag]
  · exact .refl s _

theorem State.onlyChanges_grantWrite (e : PostEntry) :
    s.OnlyChanges (s.grantWrite n e) [.tags, .postQueue, .alternation, .memRequest] := by
  intro q hq
  cases q <;> simp_all [State.agree, State.grantWrite, State.startTag]

end

/-- Settles O47: the tag found is the lowest FREE one, and the source in turn gets it. -/
theorem grantGivesTheLowestFreeTag : Obligations.GrantGivesTheLowestFreeTag := by
  intro n s hfree hlow
  have hgrant := exec_grant (State.freeTag_of_lowest hfree hlow)
  refine ⟨fun id b size v hcand hbuffer hturn => ?_, fun e front rest hcand hq hfront hqueued hturn => ?_,
    MemRequest.lines_fields⟩
  · have hchanges := s.onlyChanges_grantFill n id
    rw [State.grantFill_of_filling n hbuffer] at hchanges
    rw [hgrant, State.grantTo_fill n hcand hturn, State.grantFill_of_filling n hbuffer]
    exact ⟨_, rfl, hchanges, by simp [State.startTag], fun m hm => by simp [State.startTag, hm], by simp,
      fun x hx => by simp [State.startTag, hx], rfl, rfl, rfl⟩
  · rw [hgrant, State.grantTo_write n hcand hturn]
    refine ⟨_, rfl, s.onlyChanges_grantWrite n e, by simp [State.grantWrite, State.startTag],
      fun m hm => by simp [State.grantWrite, State.startTag, hm], ?_, rfl, rfl⟩
    rw [← issueOldest_append n rest hfront hqueued, ← hq]
    rfl

/-! ### First beats (R145) -/

/-- Settles O49, by the state of the tag. -/
theorem firstBeatStopsTheTimer : Obligations.FirstBeatStopsTheTimer := by
  intro n error data s hidle
  rw [exec_firstBeat error data hidle]
  have hchanges := s.onlyChanges_beginResponse n error data
  refine ⟨fun o c k ht => ?_, fun ht => ?_, fun ht => ?_⟩
  · rw [State.beginResponse_busy error data ht] at hchanges ⊢
    exact ⟨_, rfl, hchanges, by simp, fun m hm => by simp [hm], rfl⟩
  · rw [State.beginResponse_abandoned error data ht] at hchanges ⊢
    exact ⟨_, rfl, hchanges, by simp, fun m hm => by simp [hm], rfl⟩
  · rw [State.beginResponse_free error data ht]
    exact ⟨_, rfl, s.onlyChanges_setRespChannel _, rfl⟩

/-! ### Responses and expiries (R146 to R148) -/

/-- A delivery after the response channel has changed has the effect of the delivery before it. -/
theorem State.Delivered.of_setRespChannel {s t : State} {n : TagNo} {c : RespChannel} {owner : TagOwner} {d : Delivery}
    (h : (s.setRespChannel c).Delivered t n owner d) : s.Delivered t n owner d := by
  cases owner
  · exact State.FillDelivered.congr h rfl rfl rfl rfl rfl rfl rfl rfl
  · exact State.WriteDelivered.congr h rfl rfl rfl rfl rfl

/-- A tag takes its new value, and its owner a delivery; nothing else changes (R146, R147). -/
theorem State.setTag_deliver_effect (s : State) (n : TagNo) (x : Tag) (owner : TagOwner) (d : Delivery) :
    s.OnlyChanges ((s.setTag n x).deliver n owner d) [.tags, .buffers, .slots, .fillList, .postQueue, .notices] ∧
      ((s.setTag n x).deliver n owner d).tag n = x ∧ s.SameTagsBut ((s.setTag n x).deliver n owner d) n ∧
      s.Delivered ((s.setTag n x).deliver n owner d) n owner d :=
  ⟨(s.onlyChanges_setTag n x).trans (State.onlyChanges_deliver _ n owner d), by simp, fun m hm => by simp [hm],
    (State.delivered_deliver _ n owner d).of_setTag⟩

/-- Settles O52: the expiry makes the tag ABANDONED and delivers a TIMEOUT. -/
theorem responseTimeoutAbandonsTheTag : Obligations.ResponseTimeoutAbandonsTheTag :=
  fun n owner _ _ s hbusy => ⟨_, exec_responseTimerExpiry hbusy, s.setTag_deliver_effect n .abandoned owner .timeout⟩

/-- Settles O50: a response on an idle channel, and one begun before, frees its tag and delivers its outcome. -/
theorem responseIsDeliveredToItsOwner : Obligations.ResponseIsDeliveredToItsOwner := by
  intro i m n error beats owner count timer s called result hi hbusy
  have hresult : ∀ e b, result e b = outcome owner count e b := fun e b => by cases owner <;> rfl
  rw [exec_response error beats hi]
  refine ⟨fun hmn hidle => ?_, fun e first hbegun => ?_⟩
  · subst hmn
    rw [State.endResponse_idle error beats hidle, State.takeResponse_busy error beats hbusy, hresult]
    exact ⟨_, rfl, s.setTag_deliver_effect m .free owner _⟩
  · have hbusy' : (s.setRespChannel .idle).tag n = .busy owner count timer := hbusy
    rw [State.endResponse_begun error beats hbegun, hresult, State.takeResponse_busy e _ hbusy']
    obtain ⟨hchanges, htag, hsame, hdelivered⟩ := (s.setRespChannel .idle).setTag_deliver_effect n .free owner
      (outcome owner count e (first :: beats.tail))
    refine ⟨_, rfl, ?_, ?_, htag, hsame, hdelivered.of_setRespChannel⟩
    · exact ((s.onlyChanges_setRespChannel .idle).trans hchanges).mono (by decide)
    · exact hchanges .respChannel (by decide)

/-- Settles O51: the tag named is not BUSY, or the rest of the response is discarded. -/
theorem lateAndStrayResponsesDeliverNothing : Obligations.LateAndStrayResponsesDeliverNothing := by
  intro i n error beats s hi
  rw [exec_response error beats hi.symm]
  refine ⟨fun hidle ht => ?_, fun hidle ht => ?_, fun hdiscarding => ?_⟩
  · rw [State.endResponse_idle error beats hidle, State.takeResponse_abandoned error beats ht]
    exact ⟨_, rfl, s.onlyChanges_setTag n _, by simp, fun m hm => by simp [hm]⟩
  · rw [State.endResponse_idle error beats hidle, State.takeResponse_free error beats ht]
  · rw [State.endResponse_discarding error beats hdiscarding]
    exact ⟨_, rfl, s.onlyChanges_setRespChannel _, rfl⟩

end Sys2Proof.Machine
end

section
/-! ## What every command upholds of ports, stacks, notice queues and links

Upholds is kept along the operations of a command one after the other, so that the body of a request is followed as it
is written; only the links and the queue of commands are left to the command itself. -/

namespace Sys2Proof.Machine

/-! ### Notice queues (R175, R178) -/

/-- The bound of one notice queue (R175). -/
def NoticeQueue.Bounded (q : NoticeQueue) : Prop :=
  q.items.length ≤ Config.noticeDepth ∧ (q.overrun = true → q.items.length = Config.noticeDepth)

theorem State.noticesBounded_iff (s : State) : s.NoticesBounded ↔ ∀ p, (s.noticeQueue p).Bounded := Iff.rfl

/-- A queue whose overrun mark is clear is bounded by its length alone. -/
theorem NoticeQueue.bounded_of_clear {items : List Notice} (h : items.length ≤ Config.noticeDepth) :
    NoticeQueue.Bounded ⟨items, false⟩ :=
  ⟨h, nofun⟩

/-- The mark is set only where the queue is full (R178). -/
theorem NoticeQueue.Bounded.push {q : NoticeQueue} (h : q.Bounded) (n : Notice) : (q.push n).Bounded := by
  obtain ⟨hlen, hmark⟩ := h
  by_cases hroom : q.items.length < Config.noticeDepth
  · rw [q.push_of_room n hroom]
    refine ⟨by simpa using hroom, fun ho => ?_⟩
    rw [hmark ho] at hroom
    exact absurd hroom (Nat.lt_irrefl _)
  · rw [q.push_of_full n hroom]
    exact ⟨hlen, fun _ => Nat.le_antisymm hlen (Nat.not_lt.1 hroom)⟩

/-! ### The relation and its ways to hold -/

/-- Each bound of ports, notice queues and stacks that holds of s holds of t (R159, R175, R78, R158). -/
structure State.KeepsBounds (s t : State) : Prop where
  someTable : s.SomeTable → t.SomeTable
  noticesBounded : s.NoticesBounded → t.NoticesBounded
  stacksBounded : s.StacksBounded → t.StacksBounded
  talliesBounded : s.TalliesBounded → t.TalliesBounded

/-- From s to t the bounds are kept, and no link and no queued command changes. -/
structure State.Upholds (s t : State) : Prop extends s.KeepsBounds t where
  links : t.links = s.links
  pending : t.pending = s.pending

section
variable {s t u : State} {parts : List Part}

theorem State.KeepsBounds.trans (h : s.KeepsBounds t) (g : t.KeepsBounds u) : s.KeepsBounds u where
  someTable := g.someTable ∘ h.someTable
  noticesBounded := g.noticesBounded ∘ h.noticesBounded
  stacksBounded := g.stacksBounded ∘ h.stacksBounded
  talliesBounded := g.talliesBounded ∘ h.talliesBounded

/-- The bounds speak of port records, notice queues and stacks alone. -/
theorem State.KeepsBounds.congr (hports : t.ports = s.ports) (hnotices : s.NoticesBounded → t.NoticesBounded)
    (hstacks : s.StacksBounded → t.StacksBounded) : s.KeepsBounds t where
  someTable := by simp only [State.SomeTable, State.port, hports, imp_self]
  noticesBounded := hnotices
  stacksBounded := hstacks
  talliesBounded := by simp only [State.TalliesBounded, State.port, hports, imp_self]

theorem State.noticesBounded_of_eq (h : t.notices = s.notices) : s.NoticesBounded → t.NoticesBounded := by
  simp only [State.NoticesBounded, State.noticeQueue, h, imp_self]

theorem State.stacksBounded_of_eq (h : t.ctxStacks = s.ctxStacks) : s.StacksBounded → t.StacksBounded := by
  simp only [State.StacksBounded, State.stack, h, imp_self]

theorem State.OnlyChanges.keepsBounds (ho : s.OnlyChanges t parts)
    (hparts : ∀ q ∈ [Part.ports, .ctxStacks, .notices], q ∉ parts) : s.KeepsBounds t :=
  .congr (ho .ports (hparts _ (by decide))) (State.noticesBounded_of_eq (ho .notices (hparts _ (by decide))))
    (State.stacksBounded_of_eq (ho .ctxStacks (hparts _ (by decide))))

end

theorem State.onlyChanges_setPostQueue (s : State) (q : List PostEntry) :
    s.OnlyChanges (s.setPostQueue q) [.postQueue] := by
  intro x hx
  cases x <;> simp_all [State.agree]

/-- Whether a port beside q has TABLE authority (R160). -/
theorem State.otherTable_iff (s : State) (q : Port) :
    s.otherTable q = true ↔ ∃ x, x ≠ q ∧ (s.port x).authority = .table := by
  simp [State.otherTable, mem_allPorts]

namespace State.Upholds

section
variable {s t u : State} {parts : List Part}

theorem refl (s : State) : s.Upholds s := ⟨⟨id, id, id, id⟩, rfl, rfl⟩

theorem trans (h : s.Upholds t) (g : t.Upholds u) : s.Upholds u :=
  ⟨h.toKeepsBounds.trans g.toKeepsBounds, g.links.trans h.links, g.pending.trans h.pending⟩

/-- A change of the notice queues, and of parts that nothing here speaks of. -/
theorem of_notices (ho : s.OnlyChanges t parts) (hparts : ∀ q ∈ [Part.links, .pending, .ports, .ctxStacks], q ∉ parts)
    (hn : s.NoticesBounded → t.NoticesBounded) : s.Upholds t :=
  ⟨.congr (ho .ports (hparts _ (by decide))) hn (State.stacksBounded_of_eq (ho .ctxStacks (hparts _ (by decide)))),
    ho .links (hparts _ (by decide)), ho .pending (hparts _ (by decide))⟩

/-- A change of the stacks, and of parts that nothing here speaks of. -/
theorem of_stacks (ho : s.OnlyChanges t parts) (hparts : ∀ q ∈ [Part.links, .pending, .ports, .notices], q ∉ parts)
    (hst : s.StacksBounded → t.StacksBounded) : s.Upholds t :=
  ⟨.congr (ho .ports (hparts _ (by decide))) (State.noticesBounded_of_eq (ho .notices (hparts _ (by decide)))) hst,
    ho .links (hparts _ (by decide)), ho .pending (hparts _ (by decide))⟩

theorem of_onlyChanges (ho : s.OnlyChanges t parts)
    (hparts : ∀ q ∈ [Part.links, .pending, .ports, .ctxStacks, .notices], q ∉ parts) : s.Upholds t :=
  ⟨ho.keepsBounds (fun q hq => hparts q (by revert q; decide)), ho .links (hparts _ (by decide)),
    ho .pending (hparts _ (by decide))⟩

/-- And then a change of parts that nothing here speaks of. -/
theorem elsewhere (h : s.Upholds t) (ho : t.OnlyChanges u parts)
    (hparts : ∀ q ∈ [Part.links, .pending, .ports, .ctxStacks, .notices], q ∉ parts) : s.Upholds u :=
  h.trans (of_onlyChanges ho hparts)

end

variable (s : State)

/-! ### The operations that touch ports, stacks or notices -/

theorem setNotices {p : Port} {q : NoticeQueue} (hq : (s.noticeQueue p).Bounded → q.Bounded) :
    s.Upholds (s.setNotices p q) := by
  refine of_notices (s.onlyChanges_setNotices p q) (by decide) ?_
  simp only [State.noticesBounded_iff, State.noticeQueue_setNotices]
  intro h x
  split
  · exact hq (h p)
  · exact h x

theorem notify (p : Port) (n : Notice) : s.Upholds (s.notify p n) :=
  setNotices s (fun h => h.push n)

theorem setStack {p : Port} {st : List Context} (hst : st.length ≤ Config.stackDepth ∨ st.length ≤ (s.stack p).length) :
    s.Upholds (s.setStack p st) := by
  refine of_stacks (s.onlyChanges_setStack p st) (by decide) (fun h x => ?_)
  rw [State.stack_setStack]
  split
  · exact hst.elim id (fun hle => hle.trans (h p))
  · exact h x

/-- A port record written: TABLE authority stays somewhere, and the record's tally and limit stay in their bounds. -/
theorem setPort_of {p : Port} {r : PortRec}
    (htable : (s.port p).authority = .table → r.authority = .table ∨ ∃ x, x ≠ p ∧ (s.port x).authority = .table)
    (hbound : (s.port p).tally ≤ 15 ∧ (s.port p).limit ≤ 15 → r.tally ≤ 15 ∧ r.limit ≤ 15) :
    s.Upholds (s.setPort p r) := by
  refine ⟨⟨?_, State.noticesBounded_of_eq rfl, State.stacksBounded_of_eq rfl, fun h x => ?_⟩, rfl, rfl⟩
  · rintro ⟨x, hx⟩
    by_cases hxp : x = p
    · subst hxp
      rcases htable hx with hr | ⟨y, hy, hyt⟩
      · exact ⟨x, by simpa using hr⟩
      · exact ⟨y, by simpa [hy] using hyt⟩
    · exact ⟨x, by simpa [hxp] using hx⟩
  · rw [State.port_setPort]
    split
    · exact hbound (h p)
    · exact h x

/-- A port record written whose authority and limit stay. -/
theorem setPort {p : Port} {r : PortRec} (hauth : r.authority = (s.port p).authority)
    (hlimit : r.limit = (s.port p).limit) (htally : r.tally = (s.port p).tally ∨ r.tally ≤ 15) :
    s.Upholds (s.setPort p r) := by
  refine setPort_of s (fun h => .inl (hauth.trans h)) (fun ⟨ht, hl⟩ => ⟨?_, hlimit.le.trans hl⟩)
  exact htally.elim (fun e => e.le.trans ht) id

/-! ### The shared operations -/

theorem release (S : Seg) : s.Upholds (s.release S) := by
  refine of_notices (s.onlyChanges_release S) (by decide) (fun h q => ?_)
  rw [State.noticeQueue_release]
  split
  · exact NoticeQueue.Bounded.push (h q) _
  · exact h q

theorem releaseOf (c : Cursor) : s.Upholds (s.releaseOf c) := by
  unfold State.releaseOf
  split
  · split
    · exact release s _
    · exact refl s
  · exact refl s

theorem letGo (x : Context) : s.Upholds (s.letGo x) := by
  by_cases hm : x.mark = .revoked
  · rw [s.letGo_of_revoked hm]; exact refl s
  · rw [s.letGo_of_held hm]; exact release s _

/-- An advance that crosses releases one binding (R46); no other end of it tells anyone (R45, R47). -/
theorem advance (id : CursorId) (S : Seg) (m : Nat) : s.Upholds (s.advance id S m) := by
  unfold State.advance
  dsimp only
  split
  · exact of_onlyChanges (s.onlyChanges_setCursor id _) (by decide)
  · exact ((of_onlyChanges (s.onlyChanges_spendOffset _) (by decide)).trans (release _ S)).elsewhere
      ((State.onlyChanges_setCursor _ id _).trans (State.onlyChanges_joinQueue _ id)) (by decide)
  · exact of_onlyChanges ((s.onlyChanges_spendOffset _).trans (State.onlyChanges_setCursor _ id _)) (by decide)

theorem settle (id : CursorId) (o : Origin) (w : Walk) : s.Upholds (s.settle id o w) := by
  have hset : ∀ c, s.Upholds (s.setCursor id c) := fun c => of_onlyChanges (s.onlyChanges_setCursor id c) (by decide)
  cases w with
  | bound S x => exact (hset _).elsewhere (State.onlyChanges_claim _ S) (by decide)
  | exhausted S x side => exact (hset _).elsewhere (State.onlyChanges_claim _ S) (by decide)
  | failed S x reason => exact (hset _).trans (notify _ _ _)

theorem place (id : CursorId) : s.Upholds (s.place id) := by
  unfold State.place
  dsimp only
  split
  · exact settle s id _ _
  · exact settle s id _ _
  · exact (release s _).trans (settle _ id _ _)
  · exact refl s

/-! ### Requests of cursors -/

theorem openBody (id : CursorId) (S : Seg) (offset : Word) (stride : BitVec 16) (expected : Option (BitVec 8)) :
    s.Upholds (openBody id S offset stride expected s).1 := by
  have hopened : ∀ c, s.Upholds ((s.setCursor id c).joinQueue id) := fun c =>
    of_onlyChanges ((s.onlyChanges_setCursor id c).trans (State.onlyChanges_joinQueue _ id)) (by decide)
  unfold Machine.openBody
  dsimp only
  split
  · exact hopened _
  · exact hopened _
  · exact refl s

theorem closeCursor (id : CursorId) : s.Upholds (s.closeCursor id) := by
  by_cases hc : (s.cursor id).state = .closed
  · rw [State.closeCursor_of_closed s id hc]; exact refl s
  · rw [State.closeCursor_of_open s id hc]
    exact (releaseOf s _).elsewhere (((State.onlyChanges_leaveQueue _ id).trans
      (State.onlyChanges_cancelRead _ id false)).trans (State.onlyChanges_setCursor _ id _)) (by decide)

theorem seekBody (id : CursorId) (offset : Word) (stride : Option (BitVec 16)) :
    s.Upholds (seekBody id offset stride s).1 := by
  have htaken : ∀ n, s.Upholds (seekTaken id offset stride n s).1 := fun n =>
    of_onlyChanges (s.onlyChanges_seekTaken id offset stride n) (by decide)
  unfold Machine.seekBody
  dsimp only
  split
  case h_1 | h_2 | h_3 | h_4 | h_5 => exact refl s
  case h_6 | h_7 =>
    split
    · split
      · exact htaken _
      · exact refl s
    · exact refl s

/-- A hit, and a collection of data: the buffer after its use, and an advance (R98, R102). -/
theorem readDone {u : State} (hu : s.Upholds u) (id : CursorId) (S : Seg) (z : AccessSize) (bytes : List Byte) (n : Nat)
    (b : Buffer) : s.Upholds (readDone id S z bytes n (u.setBuffer id b)).1 :=
  (hu.elsewhere (u.onlyChanges_setBuffer id b) (by decide)).trans (advance _ id S 1)

theorem collectSlot (id : CursorId) : s.Upholds (s.collectSlot id) :=
  (of_onlyChanges (s.onlyChanges_setSlot id .empty) (by decide)).trans (setPort _ rfl rfl (.inr (Nat.zero_le _)))

theorem readCollect (id : CursorId) (S : Seg) (z : AccessSize) (r : ReadResult) :
    s.Upholds (readCollect id S z r s).1 := by
  cases r with
  | data bytes => exact readDone s (collectSlot s id) id S z bytes _ _
  | memoryError => exact collectSlot s id
  | memoryTimeout => exact collectSlot s id

theorem readAhead (id : CursorId) (S : Seg) (z : AccessSize) : s.Upholds (readAhead id S z s).1 := by
  have hmiss : s.Upholds (readMiss id S z s).1 :=
    of_onlyChanges (((s.onlyChanges_setSlot id _).trans (State.onlyChanges_setBuffer _ id _)).trans
      (State.onlyChanges_setFillList _ _)) (by decide)
  unfold Machine.readAhead
  split
  · split
    · exact hmiss
    · dsimp only
      split
      · exact readDone s (refl s) id S z _ _ _
      · exact hmiss
    · exact of_onlyChanges ((s.onlyChanges_setSlot id _).trans (State.onlyChanges_setBuffer _ id _)) (by decide)
  · split <;> exact refl s
  · split
    · exact readCollect s id S z _
    · exact refl s

theorem readBody (id : CursorId) (z : AccessSize) : s.Upholds (readBody id z s).1 := by
  unfold Machine.readBody
  split
  · exact refl s
  · exact readAhead s id _ z

theorem writeBody (id : CursorId) (z : AccessSize) (data : List Word) : s.Upholds (writeBody id z data s).1 := by
  have haccept : ∀ S, s.Upholds (writeAccept id S z data s).1 := fun S =>
    (of_onlyChanges (s.onlyChanges_post (postEntry id S z data s)) (by decide)).trans (advance _ id S 1)
  unfold Machine.writeBody
  split
  · exact refl s
  · split
    · exact refl s
    · split
      · exact refl s
      · split
        · exact refl s
        · exact haccept _

/-! ### Requests of the stack -/

/-- A PUSH is taken only where a context has room (R82). -/
theorem pushHeld (id : CursorId) (S : Seg) (side : Option Side) (mark : Mark) :
    s.Upholds (pushHeld id S side mark s).1 := by
  unfold Machine.pushHeld
  dsimp only
  split
  · exact refl s
  · next hroom =>
    have hpushed := setStack s (p := id.port) (st := contextOf (s.cursor id) S side mark :: s.stack id.port)
      (.inl (Nat.not_le.1 hroom))
    exact hpushed.elsewhere (State.onlyChanges_claim _ S) (by decide)

theorem pushBody (id : CursorId) : s.Upholds (pushBody id s).1 := by
  unfold Machine.pushBody
  split
  · exact pushHeld s ..
  · exact pushHeld s ..
  · exact pushHeld s ..
  · exact refl s

/-- The restore of a VALID context may advance it; a marked one is put back without any notice (R86 to R88). -/
theorem restore (id : CursorId) (x : Context) (k : Nat) : s.Upholds (s.restore id x k) := by
  by_cases hm : x.mark = .valid
  · have hrevived := of_onlyChanges (s.onlyChanges_setCursor id x.revived) (by decide)
    rw [State.restore_of_valid hm]
    split
    · exact hrevived
    · exact hrevived.trans (advance _ id _ k)
  · exact of_onlyChanges (s.onlyChanges_restore_of_not_valid id k hm) (by decide)

theorem popBody (id : CursorId) (k : Nat) : s.Upholds (popBody id k s).1 := by
  unfold Machine.popBody
  split
  · exact refl s
  · split
    · exact refl s
    · next x rest hst =>
      have hcleared : s.Upholds (s.popClear id) :=
        (releaseOf s _).elsewhere (State.onlyChanges_cancelRead _ id false) (by decide)
      have hshorter : rest.length ≤ ((s.popClear id).stack id.port).length := by
        rw [State.stack_popClear, hst]; exact Nat.le_succ _
      exact (hcleared.trans (setStack _ (.inr hshorter))).trans (restore _ id x k)

theorem dropBody (p : Port) : s.Upholds (dropBody p s).1 := by
  unfold Machine.dropBody
  split
  · exact refl s
  · next x rest hst =>
    have hshorter : rest.length ≤ (s.stack p).length := by rw [hst]; exact Nat.le_succ _
    exact (setStack s (.inr hshorter)).trans (letGo _ x)

/-! ### The descriptor table -/

theorem setStaging (p : Port) (g : Staging) : s.Upholds (s.setPort p { s.port p with staging := g }) :=
  setPort s rfl rfl (.inl rfl)

/-- The broadcasts mark contexts and remove none (R19, R25). -/
theorem broadcastReplace (S : Seg) : s.Upholds (s.broadcastReplace S) :=
  of_stacks (s.onlyChanges_broadcastReplace S) (by decide) (fun h p => by
    rw [State.stack_broadcastReplace, List.length_map]; exact h p)

theorem broadcastRevoke (S : Seg) : s.Upholds (s.broadcastRevoke S) :=
  of_stacks (s.onlyChanges_broadcastRevoke S) (by decide) (fun h p => by
    rw [State.stack_broadcastRevoke, List.length_map]; exact h p)

theorem commitDone (p : Port) (S : Seg) (d : Descriptor) : s.Upholds (commitDone p S d s).1 :=
  (of_onlyChanges (s.onlyChanges_setDesc S d) (by decide)).trans (setStaging _ p _)

theorem commitBody (p : Port) (S : Seg) : s.Upholds (commitBody p S s).1 := by
  unfold Machine.commitBody
  dsimp only
  split
  · exact refl s
  · split
    · exact refl s
    · split
      · exact refl s
      · split
        · exact refl s
        · exact commitDone s ..
    · split
      · exact refl s
      · exact (commitDone s ..).trans (broadcastReplace _ S)

theorem notifyRevoked (S : Seg) (a b : Nat) (p : Port) : s.Upholds (s.notifyRevoked S a b p) := by
  unfold State.notifyRevoked
  split
  · exact refl s
  · exact notify s _ _

theorem forceRetire (S : Seg) : s.Upholds (s.forceRetire S) := by
  have hrevoked : s.Upholds ((s.broadcastRevoke S).notifyAllRevoked s S) :=
    List.foldlRecOn (motive := fun u : State => s.Upholds u) allPorts _ (broadcastRevoke s S)
      (fun u hu p _ => hu.trans (notifyRevoked u S _ _ p))
  have hforced : s.Upholds (((s.broadcastRevoke S).notifyAllRevoked s S).notifyForced S (s.desc S)) := by
    unfold State.notifyForced
    split
    · exact hrevoked.trans (notify _ _ _)
    · exact hrevoked
  exact hforced.elsewhere (State.onlyChanges_setDesc _ S _) (by decide)

theorem retireBody (p : Port) (forced : Bool) (S : Seg) : s.Upholds (retireBody p forced S s).1 := by
  have hset : ∀ d, s.Upholds (s.setDesc S d) := fun d => of_onlyChanges (s.onlyChanges_setDesc S d) (by decide)
  unfold Machine.retireBody
  dsimp only
  split
  · exact refl s
  · split
    · exact hset _
    · split
      · exact forceRetire s S
      · exact hset _
  · split
    · exact forceRetire s S
    · exact refl s

/-! ### The port requests -/

theorem fetchBody (p : Port) : s.Upholds (fetchBody p s).1 := by
  unfold Machine.fetchBody
  dsimp only
  split
  · exact setNotices s (fun _ => NoticeQueue.bounded_of_clear (Nat.zero_le _))
  · next n rest hq =>
    refine setNotices s (fun ⟨hlen, _⟩ => NoticeQueue.bounded_of_clear ?_)
    rw [hq] at hlen
    exact (Nat.le_succ _).trans hlen

/-- A demotion is taken only beside another TABLE port (R160). -/
theorem setPortBody (q : Port) (a : Option Authority) (pr : Option Priority) {n : Option Nat} (i : Option Interval)
    (hn : ∀ k, n = some k → k ≤ 15) : s.Upholds (setPortBody q a pr n i s).1 := by
  unfold Machine.setPortBody
  dsimp only
  split
  · exact refl s
  · next hnot =>
    refine setPort_of s (fun ht => ?_) (fun ⟨htally, hlimit⟩ => ⟨htally, ?_⟩)
    · by_cases hd : a = some .ordinary
      · have hother : s.otherTable q = true := by simpa [hd, ht] using hnot
        exact .inr ((s.otherTable_iff q).1 hother)
      · refine .inl ?_
        rcases a with _ | _ | _
        · exact ht
        · exact absurd rfl hd
        · rfl
    · cases n with
      | none => exact hlimit
      | some k => exact hn k rfl

theorem releasePortBody (q : Port) : s.Upholds (releasePortBody q s).1 := by
  unfold Machine.releasePortBody
  split
  · exact refl s
  · have hactive : s.Upholds (s.setPort q { s.port q with status := .active, tally := 0 }) :=
      setPort s rfl rfl (.inr (Nat.zero_le _))
    exact hactive.trans (notify _ _ _)

theorem resetRecord (q : Port) : s.Upholds (s.resetRecord q) :=
  setPort s rfl rfl (.inr (Nat.zero_le _))

/-- The four steps of a port reset (R170). -/
theorem resetPort (q : Port) : s.Upholds (s.resetPort q) := by
  have hcursors : s.Upholds ((s.setNotices q ⟨[], false⟩).resetCursors q) :=
    List.foldlRecOn (motive := fun u : State => s.Upholds u) allCursorNos _
      (setNotices s (fun _ => NoticeQueue.bounded_of_clear (Nat.zero_le _)))
      (fun u hu c _ => hu.trans (closeCursor u ⟨q, c⟩))
  have hstack : s.Upholds (((s.setNotices q ⟨[], false⟩).resetCursors q).resetStack q) :=
    List.foldlRecOn (motive := fun u : State => s.Upholds u) _ _
      (hcursors.trans (setStack _ (.inl (Nat.zero_le _)))) (fun u hu x _ => hu.trans (letGo u x))
  exact hstack.trans (resetRecord _ q)

/-! ### Events -/

theorem serveEntry (p : Port) (level : Priority) : s.Upholds (s.serveEntry p level) := by
  unfold State.serveEntry
  split
  · exact refl s
  · exact (of_onlyChanges ((s.onlyChanges_setMapQueue p _).trans (State.onlyChanges_setMark _ level p))
      (by decide)).trans (place _ _)

theorem deliver (n : TagNo) (owner : TagOwner) (d : Delivery) : s.Upholds (s.deliver n owner d) := by
  cases owner with
  | fill id =>
    exact of_notices (s.onlyChanges_deliver n (.fill id) d) (by decide)
      (State.noticesBounded_of_eq (s.fillArrival_notices id d))
  | write =>
    show s.Upholds (s.writeCompletion n d)
    unfold State.writeCompletion
    split
    · exact refl s
    · next e _ =>
      have hleft : s.Upholds (s.setPostQueue (s.postQueue.filter (fun x => decide (x.state ≠ .issued n)))) :=
        of_onlyChanges (s.onlyChanges_setPostQueue _) (by decide)
      cases d with
      | ok beats => exact hleft
      | error => exact hleft.trans (notify _ _ _)
      | timeout => exact hleft.trans (notify _ _ _)

theorem setTag_deliver (n m : TagNo) (x : Tag) (owner : TagOwner) (d : Delivery) :
    s.Upholds ((s.setTag m x).deliver n owner d) :=
  (of_onlyChanges (s.onlyChanges_setTag m x) (by decide)).trans (deliver _ n owner d)

theorem takeResponse (n : TagNo) (error : Bool) (beats : List Lines) : s.Upholds (s.takeResponse n error beats) := by
  unfold State.takeResponse
  split
  · exact setTag_deliver s ..
  · exact of_onlyChanges (s.onlyChanges_setTag n _) (by decide)
  · exact refl s

theorem endResponse (n : TagNo) (error : Bool) (beats : List Lines) : s.Upholds (s.endResponse n error beats) := by
  have hidle := of_onlyChanges (s.onlyChanges_setRespChannel .idle) (by decide)
  unfold State.endResponse
  split
  · exact takeResponse s ..
  · exact hidle.trans (takeResponse _ ..)
  · exact hidle

/-- A quarantine changes a status, and the tally stays at most 15 (R113, R164). -/
theorem countExpiry (q : Port) : s.Upholds (s.countExpiry q) := by
  have htally : min ((s.port q).tally + 1) Config.maxTally ≤ 15 := Nat.min_le_right _ _
  unfold State.countExpiry
  dsimp only
  split
  · refine List.foldlRecOn (motive := fun u : State => s.Upholds u) allPorts _ (setPort s rfl rfl (.inr htally))
      (fun u hu p _ => ?_)
    split
    · exact hu.trans (notify u _ _)
    · exact hu
  · exact setPort s rfl rfl (.inr htally)

theorem discard (id : CursorId) : s.Upholds (s.discard id) := by
  have hslot := of_onlyChanges (s.onlyChanges_setSlot id .empty) (by decide)
  unfold State.discard
  split
  · exact hslot.trans (countExpiry _ _)
  · exact ((hslot.elsewhere (State.onlyChanges_setBuffer _ id _) (by decide)).trans (notify _ _ _)).trans
      (countExpiry _ _)

end State.Upholds
end Sys2Proof.Machine
end

section
/-! ## What each command answers (O2 to O4, O10, O11, O54)

A request whose form passes check 1 is served with the first field out of range that R185 names; every other command
is an event. Outcome says once what exec can answer. -/

namespace Sys2Proof.Machine

/-! ### The ranges of the fields (R156, R185) -/

/-- A check of an optional field fails exactly on a value given that is out of range (R183). -/
theorem optBad_eq_any {α : Type} (bad : α → Bool) (x : Option α) : optBad bad x = x.any bad := by
  cases x <;> rfl

/-! Each range check of the model is the test of R185's table. -/

theorem badCursor_def : badCursor = fun t => decide (8 ≤ t.toNat) := rfl
theorem badPort_def : badPort = fun t => decide (4 ≤ t.toNat) := rfl
theorem badSize_def : badSize = fun z => decide (4 ≤ z.toNat) := rfl
theorem badCount_def : badCount = fun k => decide (16 ≤ k.toNat) := rfl
theorem badSelector_def : badSelector = fun x => decide (2 ≤ x.toNat) := rfl
theorem badSegment_def : badSegment = fun x => decide (128 ≤ x.toNat) := rfl
theorem badOffset_def : badOffset = fun x => decide (16777216 ≤ x.toNat) := rfl
theorem badStride_def : badStride = strideOut := rfl
theorem badDepth_def : badDepth = fun x => decide (65 ≤ x.toNat) := rfl
theorem badLimit_def : badLimit = fun x => decide (16 ≤ x.toNat) := rfl
theorem badBinary_def : badBinary = fun x => decide (2 ≤ x.toNat) := rfl

theorem badLink_def : badLink = fun x => decide (128 ≤ x.toNat ∧ x.toNat ≤ 254) := by
  funext x; simp [badLink]

theorem badInterval_def : badInterval = fun x => decide (x.toNat = 3) := by
  decide

theorem badRights_def : badRights = fun x => decide (∃ q : Port, x.extractLsb' (2 * q.val) 2 = 3) := by
  funext x
  rw [Bool.eq_iff_iff, decide_eq_true_iff]
  simp only [badRights, List.any_eq_true, mem_allPorts, true_and]
  exact exists_congr fun q => decide_eq_true_iff

theorem strideOut_eq_false (x : BitVec 16) : ¬ strideOut x = true ↔ StrideOk x := by
  simp [strideOut, StrideOk]

/-- One field in the order of R185: none is named from it on when it is in range, and none after it. -/
theorem ite_some_eq_none {c : Prop} [Decidable c] {f : ArgField} {x : Option ArgField} :
    (if c then some f else x) = none ↔ ¬ c ∧ x = none := by
  split <;> simp_all

theorem not_any_iff {α : Type} {bad : α → Bool} {x : Option α} :
    ¬ x.any bad = true ↔ ∀ y, x = some y → ¬ bad y = true := by
  cases x <;> simp

/-- A two-bit code other than 3 is at most 2. -/
theorem rights_inRange_iff (x : BitVec 8) :
    (¬ ∃ q : Port, x.extractLsb' (2 * q.val) 2 = 3) ↔ ∀ q : Port, (x.extractLsb' (2 * q.val) 2).toNat < 3 := by
  have hcode : ∀ v : BitVec 2, ¬ v = 3 ↔ v.toNat < 3 := by decide
  simp only [not_exists, hcode]

/-- One field in the order of R185: it is the one named when it is out of range, and else one after it. -/
theorem eq_ite_of_ite_some {c d : Prop} [Decidable c] [Decidable d] {f g y : ArgField} {x : Option ArgField}
    (h : (if c then some f else x) = some g) (hcd : c ↔ d) (hrest : x = some g → g = y) :
    g = if d then f else y := by
  by_cases hc : c
  · rw [if_pos hc, Option.some.injEq] at h
    rw [if_pos (hcd.1 hc), h]
  · rw [if_neg hc] at h
    rw [if_neg (mt hcd.2 hc), hrest h]

/-- The last field in the order of R185. -/
theorem eq_of_ite_some {c : Prop} [Decidable c] {f g : ArgField} (h : (if c then some f else none) = some g) :
    g = f := by
  split at h <;> simp_all

/-- No field is the first out of range exactly when every field is in its range. -/
theorem firstOutOfRange_eq_none (i : Instr) : i.firstOutOfRange = none ↔ i.FieldsInRange := by
  have hoffset : ∀ x : Word, x.toNat < 16777216 ↔ x.toNat ≤ 16777215 := by intro x; omega
  have hlink : ∀ x : BitVec 8, ¬ (128 ≤ x.toNat ∧ x.toNat ≤ 254) ↔ x.toNat < 128 ∨ x.toNat = 255 := by
    intro x; have := x.isLt; omega
  have hdepth : ∀ x : BitVec 7, x.toNat < 65 ↔ x.toNat ≤ 64 := by intro x; omega
  have hlimit : ∀ x : BitVec 5, x.toNat < 16 ↔ x.toNat ≤ 15 := by intro x; omega
  have hinterval : ∀ x : BitVec 2, ¬ x.toNat = 3 ↔ x.toNat < 3 := by decide
  cases i <;> simp only [Instr.firstOutOfRange, Instr.FieldsInRange, ite_some_eq_none, not_any_iff, strideOut_eq_false,
    decide_eq_true_eq, rights_inRange_iff, Nat.not_le, and_true, hoffset, hlink, hdepth, hlimit, hinterval]

/-! ### A request that passes check 1 -/

/-- Whether the form of a request passes check 1 (R154, R184). -/
def formOk : Instr → Bool
  | .write _ _ size data => Frame.writeLengthOk size data
  | .badRequest _ _ => false
  | _ => true

/-- A request whose form fails check 1 is refused for it. -/
theorem exec_of_formBad {i : Instr} {p : Port} (s : State) (hp : i.requestPort = some p) (hf : formOk i = false) :
    exec i s = refuseForm i p s := by
  cases i <;> cases hp
  case write => simp only [exec, execWrite, show Frame.writeLengthOk _ _ = false from hf]; rfl
  case badRequest => rfl
  all_goals cases hf

theorem portNo_eq_iff {t : BitVec 4} (p : Port) (ht : t.toNat < 4) : portNo t = p ↔ t.toNat = p.val := by
  rw [Fin.ext_iff]
  simp [portNo, Nat.mod_eq_of_lt ht]

/-- A request judged by check 2 on the field R185 names, by check 3 on R157's authority and by check 4 on R165's list,
with a body that upholds every bound where the fields are in range. -/
structure ServedBy (i : Instr) (p : Port) (s : State) (field : Option ArgField) (needsTable quarantineTakes : Bool)
    (body : State → State × Response) : Prop where
  exec_eq : exec i s = serve i p field needsTable quarantineTakes body s
  field_eq : field = i.firstOutOfRange
  needsTable_iff : i.FieldsInRange → (needsTable = true ↔ i.NeedsTable)
  barred_iff : i.FieldsInRange → (quarantineTakes = false ↔ i.BarredInQuarantine)
  upholds : i.FieldsInRange → s.Upholds (body s).1

section
variable {i : Instr} {p : Port} {s : State} {field : Option ArgField} {body : State → State × Response}

/-- A request of the table (R157). -/
theorem ServedBy.ofTable (he : exec i s = serve i p field true false body s) (hf : field = i.firstOutOfRange)
    (ht : i.NeedsTable) (hb : i.BarredInQuarantine) (h : i.FieldsInRange → s.Upholds (body s).1) :
    ServedBy i p s field true false body :=
  ⟨he, hf, fun _ => iff_of_true rfl ht, fun _ => iff_of_true rfl hb, h⟩

/-- A request of any authority that a QUARANTINED port may not issue (R165). -/
theorem ServedBy.ofActive (he : exec i s = serve i p field false false body s) (hf : field = i.firstOutOfRange)
    (ht : ¬ i.NeedsTable) (hb : i.BarredInQuarantine) (h : s.Upholds (body s).1) :
    ServedBy i p s field false false body :=
  ⟨he, hf, fun _ => iff_of_false nofun ht, fun _ => iff_of_true rfl hb, fun _ => h⟩

/-- A request of any authority and any status. -/
theorem ServedBy.ofAny (he : exec i s = serve i p field false true body s) (hf : field = i.firstOutOfRange)
    (ht : ¬ i.NeedsTable) (hb : ¬ i.BarredInQuarantine) (h : s.Upholds (body s).1) :
    ServedBy i p s field false true body :=
  ⟨he, hf, fun _ => iff_of_false nofun ht, fun _ => iff_of_false nofun hb, fun _ => h⟩

end

/-- Every request whose form passes check 1 is served so. -/
theorem exists_servedBy {i : Instr} {p : Port} (s : State) (hp : i.requestPort = some p) (hf : formOk i = true) :
    ∃ field tb qt body, ServedBy i p s field tb qt body := by
  cases i <;> cases hp
  case openCursor =>
    refine ⟨_, _, _, _, .ofActive rfl ?_ id trivial (.openBody s ..)⟩
    simp [Instr.firstOutOfRange, badCursor_def, badStride_def, badSegment_def, badOffset_def]
  case closeCursor target =>
    refine ⟨_, _, _, fun s => (s.closeCursor (cursorOf p target), .plain .closed),
      .ofAny rfl ?_ id id ?_⟩
    · simp [Instr.firstOutOfRange, badCursor_def]
    · exact .closeCursor s _
  case seek =>
    refine ⟨_, _, _, _, .ofActive rfl ?_ id trivial (.seekBody s ..)⟩
    simp [Instr.firstOutOfRange, badCursor_def, badStride_def, badOffset_def, optBad_eq_any]
  case read =>
    refine ⟨_, _, _, _, .ofActive rfl ?_ id trivial (.readBody s ..)⟩
    simp [Instr.firstOutOfRange, badCursor_def, badSize_def]
  case write target size data =>
    have he : exec (.write p target size data) s = serve (.write p target size data) p
        (firstBad [(badCursor target, .target), (badSize size, .size)]) false false
        (writeBody (cursorOf p target) (accessSize size) data) s := if_pos hf
    refine ⟨_, _, _, _, .ofActive he ?_ id trivial (.writeBody s ..)⟩
    simp [Instr.firstOutOfRange, badCursor_def, badSize_def]
  case queryCursor target part =>
    refine ⟨_, _, _, fun s =>
      (s, .done (s.cursor (cursorOf p target)).state.code false 0 (cursorReport s (cursorOf p target) part)),
      .ofAny rfl ?_ id id ?_⟩
    · simp [Instr.firstOutOfRange, badCursor_def, badSelector_def]
    · exact .refl s
  case push =>
    refine ⟨_, _, _, _, .ofActive rfl ?_ id trivial (.pushBody s _)⟩
    simp [Instr.firstOutOfRange, badCursor_def]
  case pop =>
    refine ⟨_, _, _, _, .ofActive rfl ?_ id trivial (.popBody s ..)⟩
    simp [Instr.firstOutOfRange, badCursor_def, badCount_def]
  case drop => exact ⟨_, _, _, _, .ofAny rfl rfl id id (.dropBody s _)⟩
  case stage base length link rights depth keep =>
    refine ⟨_, _, _, fun s =>
      (s.setPort p { s.port p with staging := (s.port p).staging.write base length link rights depth keep },
        .plain .noState),
      .ofTable rfl ?_ trivial trivial (fun _ => ?_)⟩
    · simp [Instr.firstOutOfRange, badLink_def, badRights_def, badDepth_def, optBad_eq_any]
    · exact .setStaging s ..
  case commit =>
    refine ⟨_, _, _, _, .ofTable rfl ?_ trivial trivial (fun _ => .commitBody s ..)⟩
    simp [Instr.firstOutOfRange, badSegment_def]
  case retire =>
    refine ⟨_, _, _, _, .ofTable rfl ?_ trivial trivial (fun _ => .retireBody s ..)⟩
    simp [Instr.firstOutOfRange, badSelector_def, badSegment_def]
  case querySegment part segment =>
    refine ⟨_, _, _, fun s =>
      (s, .done .noState false 0 (segmentRecord (s.desc (segNo segment)) part)),
      .ofAny rfl ?_ id id ?_⟩
    · simp [Instr.firstOutOfRange, badSelector_def, badSegment_def]
    · exact .refl s
  case fetchNotice => exact ⟨_, _, _, _, .ofAny rfl rfl id id (.fetchBody s _)⟩
  case setPort target authority priority limit interval =>
    have hlimit : (Instr.setPort p target authority priority limit interval).FieldsInRange →
        ∀ k, limit.map (fun x => x.toNat) = some k → k ≤ 15 := by
      rintro ⟨-, -, -, hl, -⟩ k hk
      obtain ⟨x, hx, rfl⟩ := Option.map_eq_some_iff.1 hk
      exact hl x hx
    refine ⟨_, _, _, _, .ofTable rfl ?_ trivial trivial (fun hr => ?_)⟩
    · simp [Instr.firstOutOfRange, badPort_def, badBinary_def, badLimit_def, badInterval_def, optBad_eq_any]
    · exact .setPortBody s _ _ _ _ (hlimit hr)
  case releasePort =>
    refine ⟨_, _, _, _, .ofTable rfl ?_ trivial trivial (fun _ => .releasePortBody s _)⟩
    simp [Instr.firstOutOfRange, badPort_def]
  case resetPort target =>
    have hother : target.toNat < 4 → (portNo target ≠ p ↔ target.toNat ≠ p.val) := fun ht =>
      not_congr (portNo_eq_iff p ht)
    refine ⟨_, _, _, fun s => (s.resetPort (portNo target), .plain .active),
      rfl, ?_, fun ht => ?_, fun ht => ?_, fun _ => ?_⟩
    · simp [Instr.firstOutOfRange, badPort_def]
    · exact decide_eq_true_iff.trans (hother ht)
    · exact decide_eq_false_iff_not.trans (hother ht)
    · exact .resetPort s _
  case badRequest => cases hf

/-! ### Checks 1 to 4 (R154, R156) -/

section
variable {i : Instr} {p : Port} {s : State}

theorem refuseForm_of_ready (hr : s.requestReady p = true) :
    refuseForm i p s = .next (s.answer p (.refused .badRequest)) := if_pos hr

theorem refuseForm_of_not_ready (hr : s.requestReady p = false) : refuseForm i p s = .next (s.holdRequest p i) :=
  if_neg (Bool.eq_false_iff.1 hr)

variable {field : Option ArgField} {tb qt : Bool} {body : State → State × Response}

/-- A request that fails one of checks 2 to 4 is refused with its reason. -/
theorem serve_of_refused {r : Reason} (hr : s.requestReady p = true) (hc : s.generalCheck p field tb qt = some r) :
    serve i p field tb qt body s = .next (s.answer p (.refused r)) := by
  simp [serve, hr, hc]

end

/-- Settles O4: both forms fail check 1. -/
theorem badRequestChangesNothing : Obligations.BadRequestChangesNothing :=
  ⟨fun _ _ _ hr => refuseForm_of_ready hr,
    fun p target size data s hr hwf =>
      (exec_of_formBad (i := .write p target size data) s rfl hwf).trans (refuseForm_of_ready hr)⟩

/-- A well-formed request other than BAD_REQUEST passes check 1. -/
theorem formOk_of_wf {i : Instr} (hwf : i.wf = true) (hi : ∀ p frame, i ≠ .badRequest p frame) : formOk i = true := by
  cases i
  case write => exact hwf
  case badRequest p frame => exact absurd rfl (hi p frame)
  all_goals rfl

/-- A field out of range is named whatever the port's authority and status (R156, check 2). -/
theorem exec_of_firstOutOfRange {i : Instr} {p : Port} {f : ArgField} {s : State} (hp : i.requestPort = some p)
    (hwf : i.wf = true) (hr : s.requestReady p = true) (hf : i.firstOutOfRange = some f) :
    exec i s = .next (s.answer p (.refused (.badArgument f))) := by
  have hform : formOk i = true := formOk_of_wf hwf (by rintro q frame rfl; cases hf)
  obtain ⟨field, tb, qt, body, h⟩ := exists_servedBy s hp hform
  rw [h.exec_eq]
  exact serve_of_refused hr (by rw [h.field_eq, hf]; rfl)

/-- Where some field is out of range, one is named. -/
theorem exists_firstOutOfRange {i : Instr} (h : ¬ i.FieldsInRange) : ∃ f, i.firstOutOfRange = some f :=
  Option.ne_none_iff_exists'.1 (mt (firstOutOfRange_eq_none i).1 h)

/-- Settles O10: check 2 names the first field out of range, and for OPEN and STAGE that field is written out. -/
theorem fieldsOutOfRangeAreRefused : Obligations.FieldsOutOfRangeAreRefused := by
  refine ⟨fun i p f s hp hwf hr hf => exec_of_firstOutOfRange hp hwf hr hf, firstOutOfRange_eq_none, ?_, ?_⟩
  · intro p t stride segment offset g s hr hout
    obtain ⟨f, hf⟩ := exists_firstOutOfRange hout
    have hnamed : f = if 8 ≤ t.toNat then .target
        else if stride.toInt < -128 ∨ 128 < stride.toInt then .stride
        else if 128 ≤ segment.toNat then .segment
        else .offset :=
      eq_ite_of_ite_some hf .rfl fun hf => eq_ite_of_ite_some hf (by simp [strideOut]) fun hf =>
        eq_ite_of_ite_some hf .rfl eq_of_ite_some
    rw [exec_of_firstOutOfRange rfl rfl hr hf, hnamed]
  · intro p base len link rights depth keep s hr hout
    obtain ⟨f, hf⟩ := exists_firstOutOfRange hout
    have hcode : ∀ v : BitVec 2, v = 3 ↔ v.toNat = 3 := by decide
    have hrights : (some rights).any (fun x => decide (∃ q : Port, x.extractLsb' (2 * q.val) 2 = 3)) = true ↔
        ∃ q : Port, (rights.extractLsb' (2 * q.val) 2).toNat = 3 :=
      decide_eq_true_iff.trans (exists_congr fun q => hcode _)
    have hnamed : f = if 128 ≤ link.toNat ∧ link.toNat ≤ 254 then .next
        else if ∃ q : Port, (rights.extractLsb' (2 * q.val) 2).toNat = 3 then .rights
        else .depth :=
      eq_ite_of_ite_some hf decide_eq_true_iff fun hf => eq_ite_of_ite_some hf hrights eq_of_ite_some
    rw [exec_of_firstOutOfRange rfl rfl hr hf, hnamed]

/-- Settles O11: past check 2, check 3 and then check 4 give their reasons. -/
theorem authorityThenQuarantineAreChecked : Obligations.AuthorityThenQuarantineAreChecked := by
  intro i p s hp hwf hr hrange
  have hserved : i.NeedsTable ∨ i.BarredInQuarantine → ∃ tb qt body, (tb = true ↔ i.NeedsTable) ∧
      (qt = false ↔ i.BarredInQuarantine) ∧ exec i s = serve i p none tb qt body s := by
    intro hi
    have hform : formOk i = true := formOk_of_wf hwf (by rintro q frame rfl; exact hi.elim id id)
    obtain ⟨field, tb, qt, body, h⟩ := exists_servedBy s hp hform
    have hfield : field = none := h.field_eq.trans ((firstOutOfRange_eq_none i).2 hrange)
    exact ⟨tb, qt, body, h.needsTable_iff hrange, h.barred_iff hrange, hfield ▸ h.exec_eq⟩
  refine ⟨fun ht ha => ?_, fun hb ht hq => ?_⟩
  · obtain ⟨tb, qt, body, htb, -, he⟩ := hserved (.inl ht)
    rw [he]
    exact serve_of_refused hr (by simp [State.generalCheck, htb.2 ht, ha])
  · obtain ⟨tb, qt, body, htb, hqt, he⟩ := hserved (.inr hb)
    rw [he]
    have hpass : ¬ (tb = true ∧ (s.port p).authority = .ordinary) := by
      rintro ⟨h1, h2⟩
      have := ht (htb.1 h1)
      rw [h2] at this; cases this
    exact serve_of_refused hr (by simp [State.generalCheck, hpass, hqt.2 hb, hq])

/-! ### Events -/

/-- The part after a device reset (R173): every reset value, the authorities the straps give, and the queue of commands
behind the requests that waited on the links. -/
def State.deviceReset (s : State) (straps : BitVec 4) : State :=
  { State.reset with
    ports := Vector.ofFn (fun p => PortRec.reset (strapAuthority straps p))
    freeCount := s.freeCount
    pending := allPorts.flatMap (fun p => (s.link p).waiting) ++ s.pending }

theorem exec_deviceReset (straps : BitVec 4) (s : State) :
    exec (.deviceReset straps) s = .next (s.deviceReset straps) := rfl

theorem exec_lastWordPassed (p : Port) (s : State) : exec (.responseLastWordPassed p) s = .next (s.reoffer p) := rfl

section
variable (s : State)

theorem exec_placementService_upholds : ∃ t, exec .placementService s = .next t ∧ s.Upholds t := by
  show ∃ t, execPlacementService s = .next t ∧ s.Upholds t
  unfold execPlacementService
  split
  · exact ⟨s, rfl, .refl s⟩
  · exact ⟨_, rfl, .serveEntry s _ _⟩

theorem exec_grant_upholds (ready : Bool) : ∃ t, exec (.grant ready) s = .next t ∧ s.Upholds t := by
  show ∃ t, execGrant ready s = .next t ∧ s.Upholds t
  unfold execGrant
  split
  · split
    · exact ⟨s, rfl, .refl s⟩
    · exact ⟨_, rfl, .of_onlyChanges (s.onlyChanges_grantTo _) (by decide)⟩
  · exact ⟨s, rfl, .refl s⟩

theorem exec_firstBeat_upholds (n : TagNo) (error : Bool) (data : Lines) :
    ∃ t, exec (.responseFirstBeat n error data) s = .next t ∧ s.Upholds t := by
  by_cases hidle : s.respChannel = .idle
  · exact ⟨_, exec_firstBeat error data hidle, .of_onlyChanges (s.onlyChanges_beginResponse n error data) (by decide)⟩
  · exact ⟨s, exec_firstBeat_busy error data hidle, .refl s⟩

theorem exec_responseTimerExpiry_upholds (n : TagNo) :
    ∃ t, exec (.responseTimerExpiry n) s = .next t ∧ s.Upholds t := by
  by_cases h : ∃ o c k, s.tag n = .busy o c (.running k)
  · obtain ⟨o, c, k, hbusy⟩ := h
    exact ⟨_, exec_responseTimerExpiry hbusy, .setTag_deliver s ..⟩
  · simp only [not_exists] at h
    exact ⟨s, exec_responseTimerExpiry_quiet h, .refl s⟩

theorem exec_discardTimerExpiry_upholds (p : Port) (c : CursorNo) :
    ∃ t, exec (.discardTimerExpiry p c) s = .next t ∧ s.Upholds t := by
  show ∃ t, execDiscardTimerExpiry p c s = .next t ∧ s.Upholds t
  unfold execDiscardTimerExpiry
  split
  · exact ⟨_, rfl, .discard s _⟩
  · exact ⟨s, rfl, .refl s⟩
  · exact ⟨s, rfl, .refl s⟩

end

/-! ### What a command can answer -/

/-- The state a command answers next: a request waits or is taken; a link's response has passed; the part is reset; or
an event of the part happens. -/
inductive State.Outcome (s : State) (i : Instr) : State → Prop
  | waits {p : Port} (hp : i.requestPort = some p) (hr : s.requestReady p = false) : s.Outcome i (s.holdRequest p i)
  | taken {p : Port} {u : State} (hp : i.requestPort = some p) (hr : s.requestReady p = true) (h : s.Upholds u)
      (r : Response) : s.Outcome i (u.answer p r)
  | passed {p : Port} (hi : i = .responseLastWordPassed p) : s.Outcome i (s.reoffer p)
  | reset {straps : BitVec 4} (hi : i = .deviceReset straps) : s.Outcome i (s.deviceReset straps)
  | event {t : State} (hp : i.requestPort = none) (hlast : ∀ p, i ≠ .responseLastWordPassed p)
      (hreset : ∀ straps, i ≠ .deviceReset straps) (h : s.Upholds t) : s.Outcome i t

/-- A request waits, or is refused by a check, or is carried out (R153 to R156). -/
theorem exec_outcome_of_request {i : Instr} {p : Port} (s : State) (hp : i.requestPort = some p) :
    ∃ t, exec i s = .next t ∧ s.Outcome i t := by
  by_cases hform : formOk i = true
  · obtain ⟨field, tb, qt, body, h⟩ := exists_servedBy s hp hform
    rw [h.exec_eq]
    rcases serve_cases i p field tb qt body s with ⟨hr, he⟩ | ⟨r, hr, -, he⟩ | ⟨hr, hc, he⟩
    · exact ⟨_, he, .waits hp hr⟩
    · exact ⟨_, he, .taken hp hr (.refl s) _⟩
    · obtain ⟨hfield, -⟩ := (s.generalCheck_eq_none p field tb qt).1 hc
      have hrange : i.FieldsInRange := (firstOutOfRange_eq_none i).1 (h.field_eq.symm.trans hfield)
      exact ⟨_, he, .taken hp hr (h.upholds hrange) _⟩
  · rw [exec_of_formBad s hp (Bool.eq_false_iff.2 hform)]
    cases hr : s.requestReady p with
    | false => exact ⟨_, refuseForm_of_not_ready hr, .waits hp hr⟩
    | true => exact ⟨_, refuseForm_of_ready hr, .taken hp hr (.refl s) _⟩

/-- An event other than the two that offer requests again upholds every bound. -/
theorem exec_upholds_of_event {i : Instr} (s : State) (hp : i.requestPort = none)
    (hlast : ∀ p, i ≠ .responseLastWordPassed p) (hreset : ∀ straps, i ≠ .deviceReset straps) :
    ∃ t, exec i s = .next t ∧ s.Upholds t := by
  cases i <;> cases hp
  case placementService => exact exec_placementService_upholds s
  case grant => exact exec_grant_upholds s _
  case responseFirstBeat => exact exec_firstBeat_upholds s ..
  case memoryResponse => exact ⟨_, rfl, .endResponse s ..⟩
  case lateOrStrayResponse => exact ⟨_, rfl, .endResponse s ..⟩
  case responseTimerExpiry => exact exec_responseTimerExpiry_upholds s _
  case discardTimerExpiry => exact exec_discardTimerExpiry_upholds s ..
  case deviceReset straps => exact absurd rfl (hreset straps)
  case responseLastWordPassed p => exact absurd rfl (hlast p)

/-- Every command has one of these outcomes. -/
theorem exec_outcome (i : Instr) (s : State) : ∃ t, exec i s = .next t ∧ s.Outcome i t := by
  cases hp : i.requestPort with
  | some p => exact exec_outcome_of_request s hp
  | none =>
    by_cases hlast : ∃ p, i = .responseLastWordPassed p
    · obtain ⟨p, rfl⟩ := hlast
      exact ⟨_, exec_lastWordPassed p s, .passed rfl⟩
    by_cases hreset : ∃ straps, i = .deviceReset straps
    · obtain ⟨straps, rfl⟩ := hreset
      exact ⟨_, exec_deviceReset straps s, .reset rfl⟩
    rw [not_exists] at hlast hreset
    obtain ⟨t, he, h⟩ := exec_upholds_of_event s hp hlast hreset
    exact ⟨t, he, .event hp hlast hreset h⟩

/-! ### The link (R153, R155) -/

section
variable {s : State} {p : Port}

theorem State.owed_ne_none_of_not_ready (h : s.requestReady p = false) : (s.link p).owed ≠ none := by
  intro he
  rw [State.requestReady, he] at h
  cases h

/-- A body that leaves the links is answered on its own port's link alone. -/
theorem State.Upholds.answers {u : State} (h : s.Upholds u) (p : Port) (r : Response) :
    s.Answers (u.answer p r) p r := by
  have hlink : ∀ q, u.link q = s.link q := fun q => by rw [State.link, State.link, h.links]
  refine ⟨by rw [State.link_answer, if_pos rfl, hlink], fun q hq => ?_⟩
  rw [State.link_answer, if_neg hq, hlink]

end

/-- Settles O2: each outcome is a next state, and one that takes a request answers it. -/
theorem everyCommandCompletes : Obligations.EveryCommandCompletes := by
  intro i s
  dsimp only
  obtain ⟨t, he, ho⟩ := exec_outcome i s
  refine ⟨t, he, ?_, fun p hp hr => ?_⟩
  · cases ho with
    | waits hp => cases i <;> cases hp <;> rfl
    | taken hp _ h => cases i <;> cases hp <;> exact h.pending
    | passed hi => subst hi; rfl
    | reset hi => subst hi; simp [State.deviceReset, allPorts]
    | event _ hlast hreset h =>
      split
      · exact absurd rfl (hlast _)
      · exact absurd rfl (hreset _)
      · exact h.pending
  · cases ho with
    | waits hq hr' => rw [hp] at hq; cases hq; rw [hr] at hr'; cases hr'
    | taken hq _ h r => rw [hp] at hq; cases hq; exact ⟨r, h.answers p r⟩
    | passed hi => subst hi; cases hp
    | reset hi => subst hi; cases hp
    | event hq => rw [hp] at hq; cases hq

/-- Settles O3: the passing of the last word, and a request that comes before it. -/
theorem linkOwesOneResponse : Obligations.LinkOwesOneResponse := by
  refine ⟨fun p s => ⟨_, exec_lastWordPassed p s, ?_, ?_, fun q hq => ?_, rfl, s.onlyChanges_reoffer p,
    fun i rest hw => ?_⟩, fun i s p hp hr => ?_⟩
  · simp [State.requestReady]
  · simp
  · simp [hq]
  · have hpending : (s.reoffer p).pending = i :: (rest ++ s.pending) := by rw [State.pending_reoffer, hw]; rfl
    unfold step
    rw [hpending]
  · obtain ⟨t, he, ho⟩ := exec_outcome_of_request s hp
    cases ho with
    | waits hq =>
      rw [hp] at hq; cases hq
      exact ⟨_, he, by simp, fun q hq => by simp [hq], s.onlyChanges_holdRequest p i⟩
    | taken hq hr' => rw [hp] at hq; cases hq; rw [hr] at hr'; cases hr'
    | passed hi => subst hi; cases hp
    | reset hi => subst hi; cases hp
    | event hq => rw [hp] at hq; cases hq

/-! ### What every step keeps (O54) -/

section
variable {s t : State}

theorem State.waitingOwed_of_links (h : t.links = s.links) : s.WaitingOwed → t.WaitingOwed := by
  simp only [State.WaitingOwed, State.link, h, imp_self]

/-- Requests come to wait on a link only while a response is owed on it (R153). -/
theorem State.Outcome.waitingOwed {i : Instr} (ho : s.Outcome i t) (h : s.WaitingOwed) : t.WaitingOwed := by
  cases ho with
  | @waits p hp hr =>
    intro q hq
    rw [State.link_holdRequest] at hq ⊢
    split
    · exact State.owed_ne_none_of_not_ready hr
    · next hne => exact h q (by rwa [if_neg hne] at hq)
  | @taken p u hp hr hu r =>
    intro q hq
    rw [State.link_answer] at hq ⊢
    split
    · exact Option.some_ne_none r
    · next hne => exact State.waitingOwed_of_links hu.links h q (by rwa [if_neg hne] at hq)
  | @passed p hi =>
    intro q hq
    rw [State.link_reoffer] at hq ⊢
    split at hq
    · exact absurd rfl hq
    · next hne => rw [if_neg hne]; exact h q hq
  | reset hi =>
    intro q hq
    exact absurd (by simp [State.deviceReset, State.link, State.reset]) hq
  | event hp hlast hreset hu => exact State.waitingOwed_of_links hu.links h

@[simp] theorem State.port_deviceReset (straps : BitVec 4) (q : Port) :
    (s.deviceReset straps).port q = PortRec.reset (strapAuthority straps q) := by
  simp [State.port, State.deviceReset]

/-- Some port's strap is high, or RP0 has TABLE authority by the fallback (R159). -/
theorem exists_strapAuthority_table (straps : BitVec 4) : ∃ p, strapAuthority straps p = .table := by
  revert straps; decide

theorem State.keepsBounds_deviceReset (straps : BitVec 4) : s.KeepsBounds (s.deviceReset straps) where
  someTable _ := by
    obtain ⟨p, hp⟩ := exists_strapAuthority_table straps
    exact ⟨p, by rw [State.port_deviceReset]; exact hp⟩
  noticesBounded _ p := by
    rw [show (s.deviceReset straps).noticeQueue p = ⟨[], false⟩ from State.reset_noticeQueue p]
    exact NoticeQueue.bounded_of_clear (Nat.zero_le _)
  stacksBounded _ p := by
    rw [show (s.deviceReset straps).stack p = [] from State.reset_stack p]
    exact Nat.zero_le _
  talliesBounded _ p := by rw [State.port_deviceReset]; exact ⟨Nat.zero_le _, show 4 ≤ 15 by decide⟩

/-- No outcome breaks a bound. -/
theorem State.Outcome.keepsBounds {i : Instr} (ho : s.Outcome i t) : s.KeepsBounds t := by
  cases ho with
  | waits => exact (s.onlyChanges_holdRequest _ i).keepsBounds (by decide)
  | taken hp hr hu r => exact hu.toKeepsBounds.trans ((State.onlyChanges_answer _ _ r).keepsBounds (by decide))
  | passed => exact (s.onlyChanges_reoffer _).keepsBounds (by decide)
  | reset => exact State.keepsBounds_deviceReset _
  | event hp hlast hreset hu => exact hu.toKeepsBounds

end

theorem State.onlyChanges_pending (s : State) (rest : List Instr) :
    s.OnlyChanges { s with pending := rest } [.pending] := by
  intro q hq
  cases q <;> simp_all [State.agree]

/-- Settles O54: the command taken leaves the queue, and its outcome keeps every bound. -/
theorem stepKeepsAuthorityAndBounds : Obligations.StepKeepsAuthorityAndBounds := by
  intro s t hs
  suffices h : s.KeepsBounds t ∧ (s.WaitingOwed → t.WaitingOwed) by
    obtain ⟨⟨htable, hnotices, hstacks, htallies⟩, hwaiting⟩ := h
    exact ⟨htable, hnotices, hstacks, htallies, hwaiting⟩
  unfold step at hs
  split at hs
  · cases hs; exact ⟨⟨id, id, id, id⟩, id⟩
  · next c rest _ =>
    obtain ⟨u, he, ho⟩ := exec_outcome c { s with pending := rest }
    rw [he] at hs; cases hs
    have htaken := (s.onlyChanges_pending rest).keepsBounds (by decide)
    exact ⟨htaken.trans ho.keepsBounds, fun h => ho.waitingOwed h⟩

end Sys2Proof.Machine
end

section
/-! ## Bytes in data words, on the data lines and in beats (O9)

A word that holds bytes is the append of its bytes, the lowest last; bytes are added at the low end one at a time. -/

namespace Sys2Proof.Machine

/-! ### Bytes put into a word -/

/-- One byte more at the low end. -/
theorem ofNat_bytesNat_cons (w : Nat) (b : Byte) (bs : List Byte) :
    BitVec.ofNat (w + 8) (bytesNat (b :: bs)) = BitVec.ofNat w (bytesNat bs) ++ b := by
  have hb : b.toNat < 256 := b.isLt
  have hlow : (b.toNat + 256 * bytesNat bs) % 256 = b.toNat := by omega
  have hhigh : (b.toNat + 256 * bytesNat bs) / 256 = bytesNat bs := by omega
  apply BitVec.eq_of_toNat_eq
  calc (b.toNat + 256 * bytesNat bs) % 2 ^ (w + 8)
      = b.toNat + 256 * (bytesNat bs % 2 ^ w) := by
        rw [Nat.pow_add, Nat.mul_comm (2 ^ w), Nat.mod_mul, hlow, hhigh]
    _ = (bytesNat bs % 2 ^ w) <<< 8 ||| b.toNat := by
        rw [← Nat.shiftLeft_add_eq_or_of_lt hb, Nat.shiftLeft_eq, Nat.mul_comm, Nat.add_comm]
    _ = (BitVec.ofNat w (bytesNat bs) ++ b).toNat := by rw [BitVec.toNat_append, BitVec.toNat_ofNat]

theorem ofNat_bytesNat_one (b : Byte) : BitVec.ofNat 8 (bytesNat [b]) = b := by
  simp [bytesNat]

theorem ofNat_bytesNat_nil (w : Nat) : BitVec.ofNat w (bytesNat []) = 0 := rfl

/-- One data word of four bytes. -/
theorem ofNat_bytesNat_four (a b c d : Byte) : BitVec.ofNat 32 (bytesNat [a, b, c, d]) = d ++ c ++ b ++ a := by
  rw [ofNat_bytesNat_cons 24, ofNat_bytesNat_cons 16, ofNat_bytesNat_cons 8, ofNat_bytesNat_one]

theorem readWords_bytes (a b c d e f g h : Byte) :
    readWords .b1 [a] = [(0 : BitVec 24) ++ a] ∧
    readWords .b2 [a, b] = [(0 : BitVec 16) ++ b ++ a] ∧
    readWords .b4 [a, b, c, d] = [d ++ c ++ b ++ a] ∧
    readWords .b8 [a, b, c, d, e, f, g, h] = [d ++ c ++ b ++ a, h ++ g ++ f ++ e] := by
  refine ⟨?_, ?_, ?_, ?_⟩
  · show [BitVec.ofNat 32 (bytesNat [a])] = _
    rw [ofNat_bytesNat_cons 24, ofNat_bytesNat_nil]
  · show [BitVec.ofNat 32 (bytesNat [a, b])] = _
    rw [ofNat_bytesNat_cons 24, ofNat_bytesNat_cons 16, ofNat_bytesNat_nil]
  · show [BitVec.ofNat 32 (bytesNat [a, b, c, d])] = _
    rw [ofNat_bytesNat_four]
  · show [BitVec.ofNat 32 (bytesNat [a, b, c, d]), BitVec.ofNat 32 (bytesNat [e, f, g, h])] = _
    rw [ofNat_bytesNat_four, ofNat_bytesNat_four]

theorem dataLines_bytes (a b c d e f g h : Byte) :
    dataLines [a] = (0 : BitVec 56) ++ a ∧
    dataLines [a, b] = (0 : BitVec 48) ++ b ++ a ∧
    dataLines [a, b, c, d] = (0 : BitVec 32) ++ d ++ c ++ b ++ a ∧
    dataLines [a, b, c, d, e, f, g, h] = h ++ g ++ f ++ e ++ d ++ c ++ b ++ a := by
  simp only [dataLines]
  refine ⟨?_, ?_, ?_, ?_⟩
  · rw [ofNat_bytesNat_cons 56, ofNat_bytesNat_nil]
  · rw [ofNat_bytesNat_cons 56, ofNat_bytesNat_cons 48, ofNat_bytesNat_nil]
  · rw [ofNat_bytesNat_cons 56, ofNat_bytesNat_cons 48, ofNat_bytesNat_cons 40, ofNat_bytesNat_cons 32,
      ofNat_bytesNat_nil]
  · rw [ofNat_bytesNat_cons 56, ofNat_bytesNat_cons 48, ofNat_bytesNat_cons 40, ofNat_bytesNat_cons 32,
      ofNat_bytesNat_cons 24, ofNat_bytesNat_cons 16, ofNat_bytesNat_cons 8, ofNat_bytesNat_one]

/-! ### Bytes taken out of words -/

theorem writeBytes_words (w v : Word) :
    writeBytes .b1 [w] = [w.extractLsb' 0 8] ∧
    writeBytes .b2 [w] = [w.extractLsb' 0 8, w.extractLsb' 8 8] ∧
    writeBytes .b4 [w] = [w.extractLsb' 0 8, w.extractLsb' 8 8, w.extractLsb' 16 8, w.extractLsb' 24 8] ∧
    writeBytes .b8 [w, v] =
      [w.extractLsb' 0 8, w.extractLsb' 8 8, w.extractLsb' 16 8, w.extractLsb' 24 8,
        v.extractLsb' 0 8, v.extractLsb' 8 8, v.extractLsb' 16 8, v.extractLsb' 24 8] :=
  ⟨rfl, rfl, rfl, rfl⟩

theorem length_lowBytes {w : Nat} (v : BitVec w) (n : Nat) : (lowBytes v n).length = n := by
  simp [lowBytes]

theorem take_lowBytes {w : Nat} (v : BitVec w) {m n : Nat} (h : m ≤ n) : (lowBytes v n).take m = lowBytes v m := by
  rw [lowBytes, lowBytes, ← List.map_take, List.take_range, Nat.min_eq_left h]

theorem lowBytes_append_byte {w : Nat} (v : BitVec w) (b : Byte) (n : Nat) :
    lowBytes (v ++ b) (n + 1) = b :: lowBytes v n := by
  have hnext : ∀ i, (v ++ b).extractLsb' (8 * (i + 1)) 8 = v.extractLsb' (8 * i) 8 := fun i =>
    BitVec.extractLsb'_append_eq_of_le (Nat.le_add_left 8 (8 * i))
  rw [lowBytes, List.range_succ_eq_map, List.map_cons, List.map_map, lowBytes]
  congr 1
  · exact BitVec.extractLsb'_append_eq_right
  · exact List.map_congr_left fun i _ => hnext i

/-- The bytes of a word wide enough are the bytes it was made of. -/
theorem lowBytes_ofNat_bytesNat (bytes : List Byte) {w n : Nat} (hn : bytes.length = n) (hw : 8 * n ≤ w) :
    lowBytes (BitVec.ofNat w (bytesNat bytes)) n = bytes := by
  induction bytes generalizing w n with
  | nil => subst hn; rfl
  | cons b bs ih =>
    subst hn
    rw [List.length_cons] at hw ⊢
    obtain ⟨k, rfl⟩ : ∃ k, w = k + 8 := ⟨w - 8, by omega⟩
    rw [ofNat_bytesNat_cons, lowBytes_append_byte, ih rfl (by omega)]

/-- A WRITE of one word takes the word's low bytes. -/
theorem writeBytes_one (z : AccessSize) (w : Word) (hz : z.bytes ≤ 4) : writeBytes z [w] = lowBytes w z.bytes := by
  rw [writeBytes, List.flatMap_cons, List.flatMap_nil, List.append_nil, take_lowBytes w hz]

/-- What a READ sends for its bytes, a WRITE of the same size writes back (R154). -/
theorem writeBytes_readWords (z : AccessSize) (bytes : List Byte) (h : bytes.length = z.bytes) :
    writeBytes z (readWords z bytes) = bytes := by
  cases z with
  | b1 => exact (writeBytes_one .b1 _ (by decide)).trans (lowBytes_ofNat_bytesNat bytes h (by decide))
  | b2 => exact (writeBytes_one .b2 _ (by decide)).trans (lowBytes_ofNat_bytesNat bytes h (by decide))
  | b4 => exact (writeBytes_one .b4 _ (by decide)).trans (lowBytes_ofNat_bytesNat bytes h (by decide))
  | b8 =>
    have hlen : bytes.length = 8 := h
    have hlow : lowBytes (BitVec.ofNat 32 (bytesNat (bytes.take 4))) 4 = bytes.take 4 :=
      lowBytes_ofNat_bytesNat _ (by simp [hlen]) (by decide)
    have hhigh : lowBytes (BitVec.ofNat 32 (bytesNat (bytes.drop 4))) 4 = bytes.drop 4 :=
      lowBytes_ofNat_bytesNat _ (by simp [hlen]) (by decide)
    simp only [writeBytes, readWords, List.flatMap_cons, List.flatMap_nil, List.append_nil, hlow, hhigh,
      List.take_append_drop]
    exact List.take_of_length_le hlen.le

/-- Byte i of a list of pieces of n bytes each. -/
theorem getElem?_flatMap_of_length {α β : Type} {f : α → List β} {n : Nat} (hn : 0 < n) (hf : ∀ x, (f x).length = n)
    (l : List α) (i : Nat) : (l.flatMap f)[i]? = (l[i / n]?).bind (fun x => (f x)[i % n]?) := by
  induction l generalizing i with
  | nil => simp
  | cons x rest ih =>
    rw [List.flatMap_cons, List.getElem?_append, hf]
    by_cases hi : i < n
    · simp [hi, Nat.div_eq_of_lt hi, Nat.mod_eq_of_lt hi]
    · obtain ⟨j, rfl⟩ : ∃ j, i = j + n := ⟨i - n, by omega⟩
      rw [if_neg hi, Nat.add_sub_cancel, ih, Nat.add_div_right _ hn, Nat.add_mod_right, List.getElem?_cons_succ]

theorem getElem?_lowBytes {w : Nat} (v : BitVec w) {n i : Nat} (hi : i < n) :
    (lowBytes v n)[i]? = some (v.extractLsb' (8 * i) 8) := by
  simp [lowBytes, hi]

/-- Byte i of a memory read stands in beat i / 8 (R145). -/
theorem getElem?_beatBytes (count : Nat) (beats : List Lines) (i : Nat) :
    (beatBytes count beats)[i]? =
      if i < count then (beats[i / 8]?).map (fun beat => beat.extractLsb' (8 * (i % 8)) 8) else none := by
  have hbyte : ∀ beat : Lines, (lowBytes beat 8)[i % 8]? = some (beat.extractLsb' (8 * (i % 8)) 8) := fun beat =>
    getElem?_lowBytes beat (Nat.mod_lt i (by decide))
  rw [beatBytes, List.getElem?_take, getElem?_flatMap_of_length (n := 8) (by decide) (length_lowBytes · 8)]
  simp only [hbyte, Option.map_eq_bind, Function.comp_def]

/-- Settles O9: bytes go into words and lines, and come out of words and beats, at the same places. -/
theorem dataWordsAreLittleEndian : Obligations.DataWordsAreLittleEndian :=
  ⟨writeBytes_readWords, readWords_bytes, writeBytes_words, dataLines_bytes, getElem?_beatBytes⟩

end Sys2Proof.Machine
end

section
/-! ## SET_PORT, RELEASE_PORT, DEVICE_RESET and the reset state (O42, O43, O45, O60) -/

namespace Sys2Proof.Machine

/-! ### SET_PORT (R160, R161) -/

/-- The fields of the port report, and its reserved bits (section 10.3). -/
theorem portReportWord_fields (r : PortRec) :
    (portReportWord r).extractLsb' 0 2 = r.authority.code ∧ (portReportWord r).extractLsb' 2 2 = r.priority.code ∧
      (portReportWord r).extractLsb' 4 4 = 0 ∧ (portReportWord r).extractLsb' 13 3 = 0 ∧
      (portReportWord r).extractLsb' 16 2 = r.interval.code ∧ (portReportWord r).extractLsb' 18 2 = 0 ∧
      (portReportWord r).getLsbD 20 = decide (r.status = .quarantined) ∧ (portReportWord r).extractLsb' 21 3 = 0 ∧
      (portReportWord r).extractLsb' 28 4 = 0 ∧ (portReportWord r).extractLsb' 8 5 = BitVec.ofNat 5 r.limit ∧
      (portReportWord r).extractLsb' 24 4 = BitVec.ofNat 4 r.tally := by
  unfold portReportWord
  refine ⟨?_, ?_, ?_, ?_, ?_, ?_, ?_, ?_, ?_, ?_, ?_⟩
  case refine_7 => simp only [BitVec.getLsbD_append]; simp
  all_goals
    simp (disch := omega) only [BitVec.extractLsb'_append_eq_of_add_le, BitVec.extractLsb'_append_eq_of_le,
      BitVec.extractLsb'_eq_self, Nat.sub_self]

section
variable (q : Port) (a : Option Authority) (pr : Option Priority) (n : Option Nat) (i : Option Interval) (s : State)

theorem setPortBody_lastAuthority (ha : a = some .ordinary) (hr : (s.port q).authority = .table)
    (ho : ¬ ∃ x, x ≠ q ∧ (s.port x).authority = .table) :
    setPortBody q a pr n i s = (s, .refused .lastAuthority) := by
  have hother : s.otherTable q = false := Bool.eq_false_iff.2 (mt (s.otherTable_iff q).1 ho)
  exact if_pos ⟨ha, hr, hother⟩

theorem setPortBody_taken (h : ¬ (a = some .ordinary ∧ (s.port q).authority = .table) ∨
      ∃ x, x ≠ q ∧ (s.port x).authority = .table) :
    setPortBody q a pr n i s = (s.setPort q ((s.port q).set a pr n i),
      .done (s.port q).status.code false 0 [portReportWord ((s.port q).set a pr n i)]) := by
  refine if_neg ?_
  rintro ⟨ha, hr, ho⟩
  rcases h with h | h
  · exact h ⟨ha, hr⟩
  · rw [(s.otherTable_iff q).2 h] at ho; cases ho

end

theorem map_authorityOf_eq_ordinary (a : Option (BitVec 2)) : a.map authorityOf = some .ordinary ↔ a = some 0 := by
  rcases a with _ | x
  · simp
  · by_cases hx : x = 0 <;> simp [authorityOf, hx]

/-- Settles O42: the check of R160, then the record written and its report. -/
theorem setPortChangesTheSettingsGiven : Obligations.SetPortChangesTheSettingsGiven := by
  intro p target a pr l i s
  dsimp only
  intro hadm hrange
  have he := exec_setPort hadm hrange
  rw [← map_authorityOf_eq_ordinary a]
  refine ⟨fun ⟨ha, hr⟩ ho => ?_, fun h => ?_⟩
  · rw [he, setPortBody_lastAuthority _ _ _ _ _ s ha hr ho]
  · rw [setPortBody_taken _ _ _ _ _ s h] at he
    generalize hr' : (s.port (portNo target)).set (a.map authorityOf) (pr.map priorityOf) (l.map (fun x => x.toNat))
      (i.map intervalOf) = r' at he
    obtain ⟨hauthority, hpriority, h4, h13, hinterval, h18, hstatus, h21, h28, hlimit, htally⟩ :=
      portReportWord_fields r'
    refine ⟨_, portReportWord r', he, ?_⟩
    rw [State.port_answer, State.port_setPort, if_pos rfl]
    refine ⟨?_, ?_, ?_, ?_, ?_, ?_, fun ⟨ha, hr⟩ => ?_, fun hkept => ?_, fun x hx => by simp [hx],
      .of_body (s.onlyChanges_setPort _ _) rfl, hauthority, hpriority, h4, h13, hinterval, h18, ?_, h21, h28,
      fun h => ?_, fun h => ?_⟩
    · subst hr'; cases a <;> rfl
    · subst hr'; cases pr <;> rfl
    · subst hr'; cases l <;> rfl
    · subst hr'; cases i <;> rfl
    · subst hr'; rfl
    · subst hr'; rfl
    · subst hr'; exact if_pos ⟨hr, ha⟩
    · subst hr'; exact if_neg fun ⟨hr, ha⟩ => hkept ⟨ha, hr⟩
    · subst hr'; exact hstatus
    · rw [hlimit, BitVec.toNat_ofNat, Nat.mod_eq_of_lt (by omega)]
    · have hsame : r'.tally = (s.port (portNo target)).tally := by subst hr'; rfl
      rw [htally, BitVec.toNat_ofNat, hsame, Nat.mod_eq_of_lt (by omega)]

/-! ### RELEASE_PORT (R167) -/

section
variable {q : Port} {s : State}

theorem releasePortBody_active (h : (s.port q).status = .active) : releasePortBody q s = (s, .plain .active) := by
  simp [releasePortBody, h]

theorem releasePortBody_quarantined (h : (s.port q).status = .quarantined) :
    releasePortBody q s =
      ((s.setPort q { s.port q with status := .active, tally := 0 }).notify q .portReleased, .plain .quarantined) := by
  simp [releasePortBody, h]

end

/-- Settles O43: by the status before. -/
theorem releasePortEndsQuarantine : Obligations.ReleasePortEndsQuarantine := by
  intro p target s
  dsimp only
  intro hadm ht
  have he := exec_releasePort hadm ht
  refine ⟨fun h => ?_, fun h => ?_⟩
  · rw [he, releasePortBody_active h]; rfl
  · rw [releasePortBody_quarantined h] at he
    exact ⟨_, he, .of_body ((s.onlyChanges_setPort _ _).trans (State.onlyChanges_notify _ _ _)) rfl, by simp,
      fun x hx => by simp [hx], by simp, fun x hx => by simp [hx]⟩

/-! ### DEVICE_RESET (R173) -/

/-- The straps give TABLE authority to the ports whose strap is high, or to RP0 when none is (R159). -/
theorem strapAuthority_eq_table (straps : BitVec 4) (p : Port) :
    strapAuthority straps p = .table ↔ straps.getLsbD p.val = true ∨ (straps = 0 ∧ p = 0) := by
  have hchoice : strapAuthority straps p = .table ↔
      (straps.getLsbD p.val || (decide (straps = 0) && decide (p = 0))) = true := by
    unfold strapAuthority
    split <;> simp_all
  rw [hchoice, Bool.or_eq_true, Bool.and_eq_true, decide_eq_true_iff, decide_eq_true_iff]

/-- Settles O45: a part that resets has the blocks of the reset state, and its ports those of the straps. -/
theorem deviceResetRestoresEveryBlock : Obligations.DeviceResetRestoresEveryBlock := by
  intro straps s
  refine ⟨s.deviceReset straps, exec_deviceReset straps s, State.reset_desc, State.reset_cursor, State.reset_mapQueue,
    rfl, rfl, State.reset_stack, fun id => ⟨State.reset_buffer id, State.reset_slot id⟩, rfl, rfl, State.reset_tag, rfl,
    rfl, rfl, fun p => ⟨State.reset_noticeQueue p, ?_⟩, fun p => ⟨State.reset_link p, ?_⟩, fun p => ?_, fun p => ?_⟩
  · show State.reset.attention p = false
    simp [State.attention]
  · show State.reset.requestReady p = true
    simp [State.requestReady]
  · rw [State.port_deviceReset]
    exact ⟨rfl, rfl, rfl, rfl, rfl, rfl⟩
  · rw [State.port_deviceReset]
    exact strapAuthority_eq_table straps p

/-! ### The reset state (O60) -/

@[simp] theorem State.reset_fillList : State.reset.fillList = [] := rfl
@[simp] theorem State.reset_postQueue : State.reset.postQueue = [] := rfl
@[simp] theorem State.reset_respChannel : State.reset.respChannel = .idle := rfl

/-- RP0 has TABLE authority in the reset state, and every port's tally is 0 and its limit 4 (R158, R159). -/
theorem State.reset_port (p : Port) :
    State.reset.port p = PortRec.reset (if p = 0 then .table else .ordinary) := by
  revert p; decide

/-- Settles O60: nothing is bound, queued, filled, posted or owed in the reset state. -/
theorem resetHasEveryInvariant : Obligations.ResetHasEveryInvariant := by
  obtain ⟨hnamed, hqueues⟩ := State.reset.queued_iff.1 .reset
  refine ⟨⟨0, by rw [State.reset_port]; rfl⟩, fun p => ?_, fun p => ?_, fun p => ?_, fun p => ?_, hnamed, hqueues,
    ⟨List.nodup_nil, fun id => ?_⟩, fun id => ?_, fun id => ?_, fun id b n => ?_, ⟨Nat.zero_le _, .nil⟩, .nil,
    State.reset.tagsPaired_iff.2 ?_, State.reset.stoppedInProgress_iff.2 fun n => ?_,
    State.reset.tableConsistent_iff.2 State.accounted_reset⟩
  · rw [State.reset_noticeQueue]; exact NoticeQueue.bounded_of_clear (Nat.zero_le _)
  · rw [State.reset_stack]; exact Nat.zero_le _
  · rw [State.reset_port]; exact ⟨Nat.zero_le _, show 4 ≤ 15 by decide⟩
  · simp
  · simp
  · simp
  · simp [slotBufferOk]
  · simp [Buffer.freshBlock]
  · exact ⟨by simp, fun n => by simp [issuedTags], by simp, List.nodup_nil⟩
  · simp [RespChannel.tag?]

end Sys2Proof.Machine
end

section
/-! ## RESET_PORT (O44)

A port reset releases a list of bindings one after the other, and the table and the notices after it are those of these
releases alone; the cursors that were open are closed, and nothing else of the port's cursors changes. -/

namespace Sys2Proof.Machine

/-! ### Releases, one after the other (R10, R21, R23) -/

/-- One binding on each of these segments is released, in this order. -/
def State.releaseAll (s : State) (l : List Seg) : State := l.foldl State.release s

section
variable {s t : State}

/-- Two states that agree in the table and in the notices. -/
def State.SameTable (s t : State) : Prop := s.dt = t.dt ∧ s.notices = t.notices

theorem State.SameTable.trans {u : State} (h : s.SameTable t) (g : t.SameTable u) : s.SameTable u :=
  ⟨h.1.trans g.1, h.2.trans g.2⟩

theorem State.SameTable.desc (h : s.SameTable t) (S : Seg) : s.desc S = t.desc S := by
  rw [State.desc, State.desc, h.1]

theorem State.SameTable.noticeQueue (h : s.SameTable t) (q : Port) : s.noticeQueue q = t.noticeQueue q := by
  rw [State.noticeQueue, State.noticeQueue, h.2]

theorem State.SameTable.release (h : s.SameTable t) (S : Seg) : (s.release S).SameTable (t.release S) :=
  ⟨by rw [State.release_dt, State.release_dt, h.desc, h.1], State.release_notices_congr h.1 h.2 S⟩

theorem State.SameTable.releaseAll (h : s.SameTable t) (l : List Seg) :
    (s.releaseAll l).SameTable (t.releaseAll l) := by
  induction l generalizing s t with
  | nil => exact h
  | cons S rest ih => exact ih (h.release S)

theorem State.SameTable.answer (h : s.SameTable t) (p : Port) (r : Response) : (s.answer p r).SameTable t := h

theorem State.releaseAll_append (s : State) (l m : List Seg) : s.releaseAll (l ++ m) = (s.releaseAll l).releaseAll m :=
  List.foldl_append

theorem State.releaseAll_bindings (s : State) (c : Cursor) : s.releaseAll c.bindings = s.releaseOf c := by
  unfold State.releaseOf Cursor.bindings
  cases c.state.holdsBinding <;> cases c.segment <;> rfl

theorem State.releaseAll_context_bindings (s : State) (x : Context) : s.releaseAll x.bindings = s.letGo x := by
  unfold State.letGo Context.bindings
  cases x.mark <;> rfl

/-- The releases are those ReleasedAll describes. -/
theorem State.releasedAll_releaseAll (l : List Seg) (h : t.SameTable (s.releaseAll l)) : s.ReleasedAll t l := by
  induction l generalizing s with
  | nil => exact h
  | cons S rest ih => exact ⟨s.release S, s.released_release S, ih h⟩

/-- A descriptor after the releases: one released for each binding on it. -/
theorem State.desc_releaseAll (s : State) (l : List Seg) (S : Seg) :
    (s.releaseAll l).desc S = Descriptor.released^[l.count S] (s.desc S) := by
  induction l generalizing s with
  | nil => rfl
  | cons T rest ih =>
    rw [show s.releaseAll (T :: rest) = (s.release T).releaseAll rest from rfl, ih, State.desc_release]
    by_cases h : S = T
    · subst h; rw [if_pos rfl, List.count_cons_self, Function.iterate_succ_apply]
    · rw [if_neg h, List.count_cons_of_ne (Ne.symm h)]

/-- Releases that do not complete a retirement only count down (R10). -/
theorem Descriptor.iterate_released_of_more {d : Descriptor} {n : Nat}
    (h : d.state = .live ∨ d.state = .retiring ∧ n < d.bindCount) :
    Descriptor.released^[n] d = { d with bindCount := d.bindCount - n } := by
  induction n generalizing d with
  | zero => rfl
  | succ n ih =>
    have hfree : d.state ≠ .free := by rcases h with h | ⟨h, -⟩ <;> simp [h]
    have hmore : ¬ (d.state = .retiring ∧ d.bindCount = 1) := by
      rcases h with h | ⟨-, hn⟩
      · simp [h]
      · rintro ⟨-, h1⟩; omega
    have hreleased : d.released = { d with bindCount := d.bindCount - 1 } := Descriptor.released_of_more hfree hmore
    have hrest : d.state = .live ∨ d.state = .retiring ∧ n < d.bindCount - 1 :=
      h.imp id fun ⟨hr, hn⟩ => ⟨hr, by omega⟩
    rw [Function.iterate_succ_apply, hreleased, ih (d := { d with bindCount := d.bindCount - 1 }) hrest]
    simp only [Nat.sub_sub, Nat.add_comm 1 n]

/-- The last of a RETIRING descriptor's bindings frees it (R21, R23). -/
theorem Descriptor.iterate_released_of_last {d : Descriptor} {n : Nat} (h : d.state = .retiring) (hn : 0 < n)
    (hlast : n = d.bindCount) : Descriptor.released^[n] d = d.freed := by
  obtain ⟨k, rfl⟩ : ∃ k, n = k + 1 := ⟨n - 1, by omega⟩
  rw [Function.iterate_succ_apply', Descriptor.iterate_released_of_more (.inr ⟨h, by omega⟩)]
  have hone : d.bindCount - k = 1 := by omega
  exact Descriptor.released_of_last ⟨h, hone⟩

/-- Every notice in a queue is a RETIRE_COMPLETE(GRACEFUL). -/
def NoticeQueue.RetiresOnly (q : NoticeQueue) : Prop := ∀ n ∈ q.items, ∃ S, n = .retireComplete S .graceful

theorem NoticeQueue.RetiresOnly.push {q : NoticeQueue} (h : q.RetiresOnly) (S : Seg) :
    (q.push (.retireComplete S .graceful)).RetiresOnly := by
  unfold NoticeQueue.push
  split
  · intro n hn
    rcases List.mem_append.1 hn with hn | hn
    · exact h n hn
    · exact ⟨S, List.mem_singleton.1 hn⟩
  · exact h

theorem State.retiresOnly_releaseAll {q : Port} (h : (s.noticeQueue q).RetiresOnly) (l : List Seg) :
    ((s.releaseAll l).noticeQueue q).RetiresOnly :=
  List.foldlRecOn (motive := fun u : State => (u.noticeQueue q).RetiresOnly) l _ h (fun u hu S _ => by
    rw [State.noticeQueue_release]
    split
    · exact hu.push S
    · exact hu)

end

/-! ### The bindings a port reset releases (R57, R81, R170) -/

theorem State.portBindings_eq (s : State) (q : Port) :
    s.portBindings q =
      allCursorNos.flatMap (fun c => (s.cursor ⟨q, c⟩).bindings) ++ (s.stack q).flatMap Context.bindings := by
  have hcursor : ∀ c : Cursor, c.bindings = (if c.state.holdsBinding then c.segment else none).toList := by
    intro c; unfold Cursor.bindings; split <;> rfl
  have hcontext : ∀ x : Context, x.bindings = (if x.mark.holdsBinding then some x.segment else none).toList := by
    intro x; unfold Context.bindings; split <;> rfl
  rw [State.portBindings, List.filterMap_eq_flatMap_toList, List.filterMap_eq_flatMap_toList]
  simp only [hcursor, funext hcontext]

/-- The bindings of a port on one segment, counted (R26). -/
theorem State.count_portBindings (s : State) (q : Port) (S : Seg) :
    (s.portBindings q).count S = s.heldCursors q S + s.heldContexts q S := by
  have hcursors : ∀ l : List CursorNo, (l.flatMap (fun c => (s.cursor ⟨q, c⟩).bindings)).count S =
      l.countP (fun c => (s.cursor ⟨q, c⟩).holds S) := by
    intro l
    induction l with
    | nil => rfl
    | cons c rest ih =>
      rw [List.flatMap_cons, List.count_append, ih, Cursor.count_bindings, List.countP_cons, Nat.add_comm]
  rw [State.portBindings_eq, List.count_append, hcursors, count_flatMap_bindings]
  rfl

/-! ### Cursors closed (R52, R57) -/

/-- From s to t the cursors hit are closed, out of their map queue and of the fill request list, their reads cancelled;
the others are as they were. -/
structure State.Shut (s t : State) (hit : CursorId → Bool) : Prop where
  cursor : ∀ id, t.cursor id = if hit id then Cursor.closed else s.cursor id
  slot : ∀ id, t.slot id = if hit id then .empty else s.slot id
  buffer : ∀ id, t.buffer id = if hit id then (s.buffer id).cancelled false else s.buffer id
  fillList : t.fillList = s.fillList.filter (fun id => !hit id)
  mapQueue : ∀ p, t.mapQueue p = (s.mapQueue p).filter (fun c => !hit ⟨p, c⟩)

theorem Buffer.cancelled_cancelled (b : Buffer) (k : Bool) : (b.cancelled k).cancelled k = b.cancelled k := by
  cases b with
  | filling base n void pos => cases pos <;> rfl
  | _ => cases k <;> rfl

namespace State.Shut

variable {s t u : State} {hit more : CursorId → Bool}

theorem none (s : State) : s.Shut s (fun _ => false) :=
  ⟨fun _ => rfl, fun _ => rfl, fun _ => rfl, by simp, fun _ => by simp⟩

theorem trans (h : s.Shut t hit) (g : t.Shut u more) : s.Shut u (fun id => hit id || more id) where
  cursor id := by rw [g.cursor, h.cursor]; cases hit id <;> cases more id <;> rfl
  slot id := by rw [g.slot, h.slot]; cases hit id <;> cases more id <;> rfl
  buffer id := by
    rw [g.buffer, h.buffer]
    cases hit id <;> cases more id <;> simp [Buffer.cancelled_cancelled]
  fillList := by
    rw [g.fillList, h.fillList, List.filter_filter]
    simp only [Bool.not_or, Bool.and_comm]
  mapQueue p := by
    rw [g.mapQueue, h.mapQueue, List.filter_filter]
    simp only [Bool.not_or, Bool.and_comm]

/-- Shut speaks of the cursors, the map queues and the read path alone. -/
theorem elsewhere (h : s.Shut t hit) {parts : List Part} (ho : t.OnlyChanges u parts)
    (hparts : ∀ q ∈ [Part.cursors, .slots, .buffers, .fillList, .mapQueues], q ∉ parts) : s.Shut u hit where
  cursor id := by rw [← h.cursor, State.cursor, ho .cursors (hparts _ (by decide))]; rfl
  slot id := by rw [← h.slot, State.slot, ho .slots (hparts _ (by decide))]; rfl
  buffer id := by rw [← h.buffer, State.buffer, ho .buffers (hparts _ (by decide))]; rfl
  fillList := (ho .fillList (hparts _ (by decide))).trans h.fillList
  mapQueue p := by rw [← h.mapQueue, State.mapQueue, ho .mapQueues (hparts _ (by decide))]; rfl

theorem of_hit (h : s.Shut t hit) {id : CursorId} (hid : hit id = true) :
    t.cursor id = Cursor.closed ∧ t.slot id = .empty ∧ t.buffer id = (s.buffer id).cancelled false :=
  ⟨by rw [h.cursor, if_pos hid], by rw [h.slot, if_pos hid], by rw [h.buffer, if_pos hid]⟩

theorem of_not_hit (h : s.Shut t hit) {id : CursorId} (hid : hit id = false) :
    t.cursor id = s.cursor id ∧ t.slot id = s.slot id ∧ t.buffer id = s.buffer id := by
  have hnot : ¬ hit id = true := Bool.eq_false_iff.1 hid
  exact ⟨by rw [h.cursor, if_neg hnot], by rw [h.slot, if_neg hnot], by rw [h.buffer, if_neg hnot]⟩

end State.Shut

/-- CLOSE closes a cursor that is open, and no other (R52). -/
theorem State.shut_closeCursor (s : State) (x : CursorId) :
    s.Shut (s.closeCursor x) (fun id => decide (id = x ∧ (s.cursor x).state ≠ .closed)) := by
  by_cases hc : (s.cursor x).state = .closed
  · have hnone : (fun id => decide (id = x ∧ (s.cursor x).state ≠ .closed)) = fun _ => false := by simp [hc]
    rw [hnone, State.closeCursor_of_closed s x hc]
    exact .none s
  · rw [State.closeCursor_of_open s x hc]
    refine ⟨fun id => by simp [hc], fun id => by simp [hc], fun id => ?_, by simp [hc], fun p => ?_⟩
    · by_cases hid : id = x <;> simp [hc, hid]
    · obtain ⟨q, n⟩ := x
      by_cases hp : p = q <;> simp [hc, hp]

/-- The cursors of port q among these numbers that are open. -/
def State.openAmong (s : State) (q : Port) (l : List CursorNo) (id : CursorId) : Bool :=
  decide (id.port = q ∧ id.cursor ∈ l ∧ (s.cursor id).state ≠ .closed)

section
variable (s : State) (q : Port)

/-- Of these cursors the first is open, or others are once it is closed. -/
theorem State.openAmong_cons (c : CursorNo) (rest : List CursorNo) (id : CursorId) :
    s.openAmong q (c :: rest) id =
      (decide (id = ⟨q, c⟩ ∧ (s.cursor ⟨q, c⟩).state ≠ .closed) || (s.closeCursor ⟨q, c⟩).openAmong q rest id) := by
  simp only [State.openAmong, (s.shut_closeCursor ⟨q, c⟩).cursor]
  by_cases hid : id = ⟨q, c⟩
  · subst hid
    by_cases hc : (s.cursor ⟨q, c⟩).state = .closed <;> simp [hc]
  · have hne : ¬ (id.port = q ∧ id.cursor = c) := fun ⟨hp, hn⟩ => hid (by rw [← hp, ← hn])
    simp only [hid, false_and, decide_false, Bool.false_or, List.mem_cons]
    grind

/-- Cursors closed one after the other. -/
theorem State.shut_foldl_closeCursor (l : List CursorNo) :
    s.Shut (l.foldl (fun t c => t.closeCursor ⟨q, c⟩) s) (s.openAmong q l) := by
  induction l generalizing s with
  | nil =>
    have hnone : s.openAmong q [] = fun _ => false := by funext id; simp [State.openAmong]
    rw [hnone]
    exact .none s
  | cons c rest ih =>
    rw [show s.openAmong q (c :: rest) = _ from funext (s.openAmong_cons q c rest)]
    exact (s.shut_closeCursor ⟨q, c⟩).trans (ih (s.closeCursor ⟨q, c⟩))

/-- What the closing of a cursor releases (R52). -/
theorem State.sameTable_closeCursor (x : CursorId) :
    (s.closeCursor x).SameTable (s.releaseAll (s.cursor x).bindings) := by
  rw [State.releaseAll_bindings]
  by_cases hc : (s.cursor x).state = .closed
  · rw [State.closeCursor_of_closed s x hc, s.releaseOf_of_not_holds _ (by rw [hc]; rfl)]
    exact ⟨rfl, rfl⟩
  · rw [State.closeCursor_of_open s x hc]
    exact ⟨rfl, rfl⟩

theorem State.sameTable_foldl_closeCursor {l : List CursorNo} (hl : l.Nodup) :
    (l.foldl (fun t c => t.closeCursor ⟨q, c⟩) s).SameTable
      (s.releaseAll (l.flatMap (fun c => (s.cursor ⟨q, c⟩).bindings))) := by
  induction l generalizing s with
  | nil => exact ⟨rfl, rfl⟩
  | cons c rest ih =>
    obtain ⟨hc, hrest⟩ := List.nodup_cons.1 hl
    have hothers : rest.flatMap (fun d => ((s.closeCursor ⟨q, c⟩).cursor ⟨q, d⟩).bindings) =
        rest.flatMap (fun d => (s.cursor ⟨q, d⟩).bindings) := by
      refine List.flatMap_congr fun d hd => ?_
      have hne : d ≠ c := fun e => hc (e ▸ hd)
      rw [(s.shut_closeCursor ⟨q, c⟩).cursor]
      simp [hne]
    have h := ih (s.closeCursor ⟨q, c⟩) hrest
    rw [hothers] at h
    rw [List.flatMap_cons, State.releaseAll_append]
    exact h.trans ((s.sameTable_closeCursor ⟨q, c⟩).releaseAll _)

/-- What the emptying of a stack releases, from the top down (R81). -/
theorem State.foldl_letGo (st : List Context) :
    st.foldl (fun t x => t.letGo x) s = s.releaseAll (st.flatMap Context.bindings) := by
  induction st generalizing s with
  | nil => rfl
  | cons x rest ih =>
    rw [List.foldl_cons, ih, List.flatMap_cons, State.releaseAll_append, State.releaseAll_context_bindings]

end

/-! ### The four steps of a port reset (R170) -/

section
variable (s : State) (q : Port)

theorem State.onlyChanges_releaseAll (l : List Seg) : s.OnlyChanges (s.releaseAll l) [.dt, .notices] :=
  List.foldlRecOn (motive := fun u : State => s.OnlyChanges u [.dt, .notices]) l _ (.refl s _)
    (fun u hu S _ => (hu.trans (u.onlyChanges_release S)).mono (by decide))

theorem State.onlyChanges_closeCursor (x : CursorId) :
    s.OnlyChanges (s.closeCursor x) [.notices, .cursors, .mapQueues, .slots, .buffers, .fillList, .dt] := by
  intro p hp
  cases p <;> simp_all [State.agree]

theorem State.onlyChanges_resetCursors :
    s.OnlyChanges (s.resetCursors q) [.notices, .cursors, .mapQueues, .slots, .buffers, .fillList, .dt] :=
  List.foldlRecOn
    (motive := fun u : State => s.OnlyChanges u [.notices, .cursors, .mapQueues, .slots, .buffers, .fillList, .dt])
    allCursorNos _ (.refl s _) (fun u hu c _ => (hu.trans (u.onlyChanges_closeCursor ⟨q, c⟩)).mono (by decide))

theorem State.resetStack_eq : s.resetStack q = (s.setStack q []).releaseAll ((s.stack q).flatMap Context.bindings) :=
  State.foldl_letGo _ _

theorem State.onlyChanges_resetStack : s.OnlyChanges (s.resetStack q) [.ctxStacks, .dt, .notices] := by
  rw [State.resetStack_eq]
  exact ((s.onlyChanges_setStack q []).trans (State.onlyChanges_releaseAll _ _)).mono (by decide)

theorem State.onlyChanges_resetPort :
    s.OnlyChanges (s.resetPort q)
      [.notices, .cursors, .mapQueues, .ctxStacks, .slots, .buffers, .fillList, .dt, .ports] :=
  ((((s.onlyChanges_setNotices q ⟨[], false⟩).trans (State.onlyChanges_resetCursors _ q)).trans
    (State.onlyChanges_resetStack _ q)).trans (State.onlyChanges_setPort _ q _)).mono (by decide)

/-- Step 2 closes the port's open cursors. -/
theorem State.shut_resetPort :
    s.Shut (s.resetPort q) (fun id => decide (id.port = q) && decide ((s.cursor id).state ≠ .closed)) := by
  have hevery : ∀ c : CursorNo, c ∈ allCursorNos := by decide
  have hopen : (s.setNotices q ⟨[], false⟩).openAmong q allCursorNos =
      fun id => decide (id.port = q) && decide ((s.cursor id).state ≠ .closed) := by
    funext id
    simp [State.openAmong, hevery]
  have h := State.shut_foldl_closeCursor (s.setNotices q ⟨[], false⟩) q allCursorNos
  rw [hopen] at h
  have hcursors : s.Shut ((s.setNotices q ⟨[], false⟩).resetCursors q)
      (fun id => decide (id.port = q) && decide ((s.cursor id).state ≠ .closed)) :=
    ⟨h.cursor, h.slot, h.buffer, h.fillList, h.mapQueue⟩
  exact (hcursors.elsewhere (State.onlyChanges_resetStack _ q) (by decide)).elsewhere
    (State.onlyChanges_setPort _ q _) (by decide)

theorem State.sameTable_resetRecord : (s.resetRecord q).SameTable s := ⟨rfl, rfl⟩

theorem State.sameTable_setStack (st : List Context) : (s.setStack q st).SameTable s := ⟨rfl, rfl⟩

theorem State.sameTable_resetCursors :
    (s.resetCursors q).SameTable (s.releaseAll (allCursorNos.flatMap (fun c => (s.cursor ⟨q, c⟩).bindings))) :=
  s.sameTable_foldl_closeCursor q (by decide)

theorem State.stack_resetCursors (x : Port) : (s.resetCursors q).stack x = s.stack x := by
  rw [State.stack, (s.onlyChanges_resetCursors q) .ctxStacks (by decide)]; rfl

theorem State.stack_resetStack (x : Port) : (s.resetStack q).stack x = if x = q then [] else s.stack x := by
  rw [State.resetStack_eq, State.stack, (State.onlyChanges_releaseAll _ _) .ctxStacks (by decide)]
  exact State.stack_setStack s q [] x

/-- Step 1 empties the port's notice queue, and then the port's bindings are released. -/
theorem State.sameTable_resetPort :
    (s.resetPort q).SameTable ((s.setNotices q ⟨[], false⟩).releaseAll (s.portBindings q)) := by
  have hcursors := State.sameTable_resetCursors (s.setNotices q ⟨[], false⟩) q
  rw [State.portBindings_eq, State.releaseAll_append, State.resetPort]
  refine (State.sameTable_resetRecord _ q).trans ?_
  rw [State.resetStack_eq, State.stack_resetCursors]
  exact ((State.sameTable_setStack _ q []).trans hcursors).releaseAll _

/-- Step 3 empties the port's stack. -/
theorem State.stack_resetPort (x : Port) : (s.resetPort q).stack x = if x = q then [] else s.stack x := by
  rw [State.resetPort, State.resetRecord, State.stack_setPort, State.stack_resetStack, State.stack_resetCursors,
    State.stack_setNotices]

/-- Step 4 writes the port's record. -/
theorem State.port_resetPort (x : Port) :
    (s.resetPort q).port x =
      if x = q then { s.port q with tally := 0, status := .active, staging := Staging.empty } else s.port x := by
  have hsame : ∀ y, (((s.setNotices q ⟨[], false⟩).resetCursors q).resetStack q).port y = s.port y := by
    intro y
    rw [State.port, (State.onlyChanges_resetStack _ q) .ports (by decide),
      (State.onlyChanges_resetCursors _ q) .ports (by decide)]
    rfl
  rw [State.resetPort, State.resetRecord, State.port_setPort, hsame, hsame]

/-- The releases of a port reset append nothing else to the emptied queue. -/
theorem State.retiresOnly_resetPort : ((s.resetPort q).noticeQueue q).RetiresOnly := by
  rw [(s.sameTable_resetPort q).noticeQueue]
  refine State.retiresOnly_releaseAll ?_ _
  rw [State.noticeQueue_setNotices, if_pos rfl]
  exact fun n hn => absurd hn List.not_mem_nil

/-- A descriptor after a port reset: one released for each binding the port held on it. -/
theorem State.desc_resetPort (S : Seg) :
    (s.resetPort q).desc S = Descriptor.released^[s.heldCursors q S + s.heldContexts q S] (s.desc S) := by
  rw [(s.sameTable_resetPort q).desc, State.desc_releaseAll, State.count_portBindings, State.desc_setNotices]

end

/-- Where each map queue holds its port's mapping cursors alone, a port reset empties the port's (R58, R170). -/
theorem State.mapQueue_resetPort_of_exact {s : State} (h : s.MapQueuesExact) (q : Port) :
    (s.resetPort q).mapQueue q = [] := by
  rw [(s.shut_resetPort q).mapQueue]
  refine List.filter_eq_nil_iff.2 fun c hc => ?_
  have hmapping : (s.cursor ⟨q, c⟩).state.isMapping = true := ((h q).2 c).1 hc
  simp [CursorState.ne_closed_of_isMapping hmapping]

/-- Settles O44: the cursors hit are closed and the others kept, the port's bindings are released in their order, and
stack and record are written. -/
theorem resetPortClearsThePort : Obligations.ResetPortClearsThePort := by
  intro p target s
  dsimp only
  intro hready ht hp
  generalize hq : portNo target = q at hp ⊢
  have he := exec_resetPort hready ht (hq ▸ hp)
  rw [hq] at he
  have hshut := s.shut_resetPort q
  have hopen : ∀ c, (s.cursor ⟨q, c⟩).state ≠ .closed → _ := fun c hc => hshut.of_hit (id := ⟨q, c⟩) (by simp [hc])
  have hclosed : ∀ c, (s.cursor ⟨q, c⟩).state = .closed → _ := fun c hc =>
    hshut.of_not_hit (id := ⟨q, c⟩) (by simp [hc])
  have hother : ∀ id : CursorId, id.port ≠ q → _ := fun id hid => hshut.of_not_hit (id := id) (by simp [hid])
  have hreleased : (s.setNotices q ⟨[], false⟩).ReleasedAll ((s.resetPort q).answer p (.plain .active))
      (s.portBindings q) := State.releasedAll_releaseAll _ ((s.sameTable_resetPort q).answer p _)
  refine ⟨_, he, .of_body (s.onlyChanges_resetPort q) ((s.onlyChanges_resetPort q) .links (by decide)), ?_⟩
  simp only [State.SameMapQueuesBut, State.SameStacksBut, State.SamePortsBut, State.cursor_answer, State.slot_answer,
    State.buffer_answer, State.answer_fillList, State.mapQueue_answer, State.stack_answer, State.port_answer,
    State.desc_answer, State.noticeQueue_answer]
  refine ⟨fun c => ?_, fun id hid => (hother id hid).1, fun id hid => (hother id hid).2, hopen, hclosed, hshut.fillList,
    ?_, fun hexact => State.mapQueue_resetPort_of_exact hexact q, fun x hx => ?_, hreleased, ?_, fun x hx => ?_, ?_,
    fun x hx => ?_, fun S => ⟨fun h => ?_, fun hst h0 hall => ?_⟩, s.retiresOnly_resetPort q⟩
  · by_cases hc : (s.cursor ⟨q, c⟩).state = .closed
    · rw [(hclosed c hc).1, hc]
    · rw [(hopen c hc).1]; rfl
  · rw [hshut.mapQueue]; simp
  · rw [hshut.mapQueue]; simp [hx]
  · rw [State.stack_resetPort, if_pos rfl]
  · rw [State.stack_resetPort, if_neg hx]
  · rw [State.port_resetPort, if_pos rfl]
  · rw [State.port_resetPort, if_neg hx]
  · rw [State.desc_resetPort, Descriptor.iterate_released_of_more h]
  · rw [State.desc_resetPort, Descriptor.iterate_released_of_last hst h0 hall]; rfl

end Sys2Proof.Machine
end

section
/-! ## FETCH_NOTICE and the notice queues (O40, O41) -/

namespace Sys2Proof.Machine

/-! ### Appends and the attention line (R178, R180) -/

/-- R180. -/
theorem State.attention_iff (s : State) (p : Port) :
    s.attention p = true ↔ (s.noticeQueue p).items ≠ [] ∨ (s.noticeQueue p).overrun = true := by
  simp [State.attention]

/-- Settles O41: the push of R178 by the room in the queue, and the frame of an append. -/
theorem appendsKeepTheOldestEight : Obligations.AppendsKeepTheOldestEight := by
  intro s p n
  refine ⟨fun hroom => ?_, fun hfull => ?_, fun q hq => s.noticeQueue_notify_ne n hq, s.onlyChanges_notify p n,
    s.attention_iff p⟩
  · rw [State.noticeQueue_notify_self, NoticeQueue.push_of_room _ _ hroom]
  · rw [State.noticeQueue_notify_self, NoticeQueue.push_of_full _ _ (Nat.not_lt.2 hfull)]

/-! ### The fields of the notice records (section 10.3) -/

theorem toNat_segBits (S : Seg) : (segBits S).toNat = S.val :=
  Nat.mod_eq_of_lt (S.isLt.trans (by decide))

theorem toNat_cursorBits (c : CursorNo) : (cursorBits c).toNat = c.val :=
  Nat.mod_eq_of_lt (c.isLt.trans (by decide))

/-- PLACEMENT_FAILED. -/
theorem Notice.words_placementFailed (c : CursorNo) (S : Seg) (r : FaultReason) (o : Origin) :
    ∃ w, (Notice.placementFailed c S r o).words = [w] ∧
      w.extractLsb' 0 8 = segBits S ∧ w.extractLsb' 8 4 = cursorBits c ∧ w.extractLsb' 12 3 = r.qual.setWidth 3 ∧
      w.getLsbD 15 = false ∧ w.extractLsb' 16 2 = o.code ∧ w.extractLsb' 18 14 = 0 := by
  refine ⟨_, rfl, ?_, ?_, ?_, ?_, ?_, ?_⟩
  case refine_4 => simp only [BitVec.getLsbD_append]; simp
  all_goals
    simp (disch := omega) only [BitVec.extractLsb'_append_eq_of_add_le, BitVec.extractLsb'_append_eq_of_le,
      BitVec.extractLsb'_eq_self, Nat.sub_self]

/-- REVOKED. -/
theorem Notice.words_revoked (S : Seg) (k m : Nat) :
    ∃ w, (Notice.revoked S k m).words = [w] ∧
      w.extractLsb' 0 8 = segBits S ∧ w.extractLsb' 8 8 = 0 ∧ w.extractLsb' 16 4 = BitVec.ofNat 4 k ∧
      w.extractLsb' 20 4 = 0 ∧ w.extractLsb' 24 4 = BitVec.ofNat 4 m ∧ w.extractLsb' 28 4 = 0 := by
  refine ⟨_, rfl, ?_, ?_, ?_, ?_, ?_, ?_⟩ <;>
    simp (disch := omega) only [BitVec.extractLsb'_append_eq_of_add_le, BitVec.extractLsb'_append_eq_of_le,
      BitVec.extractLsb'_eq_self, Nat.sub_self]

/-- READ_DISCARDED. -/
theorem Notice.words_readDiscarded (c : CursorNo) (S : Seg) (offset : Word) :
    ∃ w, (Notice.readDiscarded c S offset).words = [w, offset] ∧
      w.extractLsb' 0 8 = segBits S ∧ w.extractLsb' 8 4 = cursorBits c ∧ w.extractLsb' 12 20 = 0 := by
  refine ⟨_, rfl, ?_, ?_, ?_⟩ <;>
    simp (disch := omega) only [BitVec.extractLsb'_append_eq_of_add_le, BitVec.extractLsb'_append_eq_of_le,
      BitVec.extractLsb'_eq_self, Nat.sub_self]

/-- WRITE_FAILED. -/
theorem Notice.words_writeFailed (c : CursorNo) (S : Seg) (offset : Word) (z : AccessSize) (r : WriteFailure) :
    ∃ w, (Notice.writeFailed c S offset z r).words = [w, offset] ∧
      w.extractLsb' 0 8 = segBits S ∧ w.extractLsb' 8 4 = cursorBits c ∧ w.extractLsb' 12 2 = r.code ∧
      w.extractLsb' 14 2 = 0 ∧ w.extractLsb' 16 2 = z.code ∧ w.extractLsb' 18 14 = 0 := by
  refine ⟨_, rfl, ?_, ?_, ?_, ?_, ?_, ?_⟩ <;>
    simp (disch := omega) only [BitVec.extractLsb'_append_eq_of_add_le, BitVec.extractLsb'_append_eq_of_le,
      BitVec.extractLsb'_eq_self, Nat.sub_self]

/-- RETIRE_COMPLETE. -/
theorem Notice.words_retireComplete (S : Seg) (how : RetireHow) :
    ∃ w, (Notice.retireComplete S how).words = [w] ∧
      w.extractLsb' 0 8 = segBits S ∧ w.extractLsb' 8 8 = 0 ∧ w.getLsbD 16 = how.code.getLsbD 0 ∧
      w.extractLsb' 17 15 = 0 := by
  refine ⟨_, rfl, ?_, ?_, ?_, ?_⟩
  case refine_3 => simp only [BitVec.getLsbD_append]; simp
  all_goals
    simp (disch := omega) only [BitVec.extractLsb'_append_eq_of_add_le, BitVec.extractLsb'_append_eq_of_le,
      BitVec.extractLsb'_eq_self, Nat.sub_self]

/-- PORT_QUARANTINED. -/
theorem Notice.words_portQuarantined (q : Port) :
    ∃ w, (Notice.portQuarantined q).words = [w] ∧ (w.extractLsb' 0 2).toNat = q.val ∧ w.extractLsb' 2 30 = 0 :=
  ⟨_, rfl, by revert q; decide⟩

/-! ### FETCH_NOTICE (R179) -/

section
variable {p : Port} {s : State}

theorem fetchBody_nil (h : (s.noticeQueue p).items = []) :
    fetchBody p s = (s.setNotices p ⟨[], false⟩,
      .done (.notice .none) false (auxField 0 0 (s.noticeQueue p).overrun) []) := by
  simp [fetchBody, h]

theorem fetchBody_cons {n : Notice} {rest : List Notice} (h : (s.noticeQueue p).items = n :: rest) :
    fetchBody p s = (s.setNotices p ⟨rest, false⟩,
      .done (.notice n.kind) false (auxField rest.length 0 (s.noticeQueue p).overrun) n.words) := by
  simp [fetchBody, h]

/-- A fetch that leaves the queue q and reports r (R179). -/
theorem exec_fetchNotice_took (hready : s.requestReady p = true) {q : NoticeQueue} {r : Response}
    (hbody : fetchBody p s = (s.setNotices p q, r)) :
    ∃ t, exec (.fetchNotice p) s = .next t ∧ s.Took t p r [.notices] ∧ t.noticeQueue p = q ∧
      s.SameNoticesBut t p := by
  have he := exec_fetchNotice hready
  rw [hbody] at he
  exact ⟨_, he, .of_body (s.onlyChanges_setNotices p q) (by simp), by simp, fun x hx => by simp [hx]⟩

end

/-- Settles O40: the fetch by what the queue holds, and the record of each kind by its fields. -/
theorem fetchTakesTheOldestNotice : Obligations.FetchTakesTheOldestNotice := by
  intro p s hready
  refine ⟨fun n rest hq => exec_fetchNotice_took hready (fetchBody_cons hq),
    fun hq => exec_fetchNotice_took hready (fetchBody_nil hq), rfl, fun n => ?_⟩
  cases n with
  | placementFailed c S r o =>
    obtain ⟨w, hw, hseg, hcursor, hreason, h15, horigin, h18⟩ := Notice.words_placementFailed c S r o
    refine ⟨w, hw, rfl, by rw [hseg, toNat_segBits], by rw [hcursor, toNat_cursorBits], ?_, h15, ?_, h18⟩
    · rw [hreason]; cases r <;> rfl
    · rw [horigin]; cases o <;> rfl
  | revoked S k m =>
    obtain ⟨w, hw, hseg, h8, hcursors, h20, hcontexts, h28⟩ := Notice.words_revoked S k m
    refine ⟨w, hw, rfl, by rw [hseg, toNat_segBits], h8, fun hk => ?_, h20, fun hm => ?_, h28⟩
    · rw [hcursors, BitVec.toNat_ofNat, Nat.mod_eq_of_lt (by omega)]
    · rw [hcontexts, BitVec.toNat_ofNat, Nat.mod_eq_of_lt (by omega)]
  | readDiscarded c S offset =>
    obtain ⟨w, hw, hseg, hcursor, h12⟩ := Notice.words_readDiscarded c S offset
    exact ⟨w, hw, rfl, by rw [hseg, toNat_segBits], by rw [hcursor, toNat_cursorBits], h12⟩
  | writeFailed c S offset z r =>
    obtain ⟨w, hw, hseg, hcursor, hreason, h14, hsize, h18⟩ := Notice.words_writeFailed c S offset z r
    refine ⟨w, hw, rfl, by rw [hseg, toNat_segBits], by rw [hcursor, toNat_cursorBits], ?_, h14, ?_, h18⟩
    · rw [hreason]; cases r <;> rfl
    · rw [hsize]; cases z <;> rfl
  | retireComplete S how =>
    obtain ⟨w, hw, hseg, h8, hhow, h17⟩ := Notice.words_retireComplete S how
    refine ⟨w, hw, rfl, by rw [hseg, toNat_segBits], h8, ?_, h17⟩
    rw [hhow]; cases how <;> rfl
  | portQuarantined q =>
    obtain ⟨w, hw, hport, h2⟩ := Notice.words_portQuarantined q
    exact ⟨w, hw, rfl, hport, h2⟩
  | portReleased => exact ⟨rfl, rfl⟩

end Sys2Proof.Machine
end

section
/-! ## The header of a response (O8) -/

namespace Sys2Proof.Machine

/-- The places of section 10.2, the reserved bits 7:3 and 23:20 among them. -/
theorem headerWord_fields (kind : BitVec 2) (edge : Bool) (code : BitVec 8) (qual : BitVec 4) (aux : BitVec 8) :
    (headerWord kind edge code qual aux).extractLsb' 0 2 = kind ∧
      (headerWord kind edge code qual aux).extractLsb' 3 5 = 0 ∧
      (headerWord kind edge code qual aux).extractLsb' 8 8 = code ∧
      (headerWord kind edge code qual aux).extractLsb' 16 4 = qual ∧
      (headerWord kind edge code qual aux).extractLsb' 20 4 = 0 ∧
      (headerWord kind edge code qual aux).extractLsb' 24 8 = aux := by
  rw [headerWord]
  refine ⟨?_, ?_, ?_, ?_, ?_, ?_⟩ <;>
    simp (disch := omega) only [BitVec.extractLsb'_append_eq_of_add_le, BitVec.extractLsb'_append_eq_of_le,
      BitVec.extractLsb'_eq_self, Nat.sub_self]

/-- Settles O8: each kind of response is a header word of its own fields, before the data words of a DONE. -/
theorem responseHeaderLayout : Obligations.ResponseHeaderLayout := by
  intro r
  cases r with
  | done st edge aux data =>
    obtain ⟨hkind, hlow, hcode, hqual, hhigh, haux⟩ := headerWord_fields 0 edge st.code.1 st.code.2 aux
    exact ⟨hlow, hhigh, rfl, hkind, Response.header_edge _, hcode, hqual, haux, rfl⟩
  | wait w =>
    obtain ⟨hkind, hlow, hcode, hqual, hhigh, haux⟩ := headerWord_fields 1 false w.code 0 0
    exact ⟨hlow, hhigh, rfl, hkind, Response.header_edge _, hcode, hqual, haux, rfl⟩
  | refused x =>
    obtain ⟨hkind, hlow, hcode, hqual, hhigh, haux⟩ := headerWord_fields 2 false x.code.1 x.code.2 0
    exact ⟨hlow, hhigh, rfl, hkind, Response.header_edge _, hcode, hqual, haux, rfl⟩

end Sys2Proof.Machine
end

section
/-! ## The lengths of request frames (O5)

A word that a flag announces is there exactly when the flag is set, so that a frame of the right length is the words
announced, in order. -/

namespace Sys2Proof

/-! ### Announced words (R184) -/

theorem Frame.take_toList_append (w : Option Word) (rest : List Word) :
    Frame.take w.isSome (w.toList ++ rest) = some (w, rest) := by
  cases w <;> rfl

/-- A word is taken exactly where the flag announces one and one stands there. -/
theorem Frame.take_eq_some_iff {b : Bool} {ws rest : List Word} {w : Option Word} :
    Frame.take b ws = some (w, rest) ↔ w.isSome = b ∧ ws = w.toList ++ rest := by
  constructor
  · intro h
    cases b with
    | false => cases h; exact ⟨rfl, rfl⟩
    | true =>
      cases ws with
      | nil => cases h
      | cons x xs => cases h; exact ⟨rfl, rfl⟩
  · rintro ⟨rfl, rfl⟩
    exact Frame.take_toList_append w rest

/-- Enough words hold the one announced. -/
theorem Frame.exists_announced (b : Bool) {n : Nat} {ws : List Word} (h : ws.length = (if b then 1 else 0) + n) :
    ∃ (w : Option Word) (rest : List Word), w.isSome = b ∧ ws = w.toList ++ rest ∧ rest.length = n := by
  cases b with
  | false => exact ⟨none, ws, rfl, rfl, by simpa using h⟩
  | true =>
    cases ws with
    | nil => simp at h; omega
    | cons x xs => exact ⟨some x, xs, rfl, rfl, by simp at h; omega⟩

/-! ### STAGE and SET_PORT (R184) -/

/-- Whether a STAGE header announces the attributes word. -/
def Frame.announcesAttributes (flags : BitVec 8) : Bool :=
  flags.getLsbD 2 || flags.getLsbD 3 || flags.getLsbD 4 || flags.getLsbD 5

/-- Whether a SET_PORT header announces the settings word. -/
def Frame.announcesSettings (flags : BitVec 8) : Bool :=
  flags.getLsbD 0 || flags.getLsbD 1 || flags.getLsbD 2 || flags.getLsbD 3

/-- The STAGE of the words a header announces. -/
def Frame.stageOf (p : Port) (flags : BitVec 8) (base len attr : Option Word) : Instr :=
  .stage p base len
    (Frame.field (flags.getLsbD 2) attr (fun w => w.extractLsb' 0 8))
    (Frame.field (flags.getLsbD 3) attr (fun w => w.extractLsb' 8 8))
    (Frame.field (flags.getLsbD 4) attr (fun w => w.extractLsb' 16 7))
    (Frame.field (flags.getLsbD 5) attr (fun w => w.getLsbD 24))

/-- The SET_PORT of the word a header announces. -/
def Frame.setPortOf (p : Port) (target : BitVec 4) (flags : BitVec 8) (w : Option Word) : Instr :=
  .setPort p target
    (Frame.field (flags.getLsbD 0) w (fun w => w.extractLsb' 0 2))
    (Frame.field (flags.getLsbD 1) w (fun w => w.extractLsb' 2 2))
    (Frame.field (flags.getLsbD 2) w (fun w => w.extractLsb' 8 5))
    (Frame.field (flags.getLsbD 3) w (fun w => w.extractLsb' 16 2))

theorem Frame.readStage_eq_some_iff {p : Port} {flags : BitVec 8} {ws : List Word} {i : Instr} :
    Frame.readStage p flags ws = some i ↔ ∃ base len attr : Option Word,
      (base.isSome = flags.getLsbD 0 ∧ len.isSome = flags.getLsbD 1 ∧
        attr.isSome = Frame.announcesAttributes flags) ∧
      ws = base.toList ++ (len.toList ++ attr.toList) ∧ i = Frame.stageOf p flags base len attr := by
  constructor
  · intro h
    simp only [Frame.readStage] at h
    split at h
    next => cases h
    next base ws1 h1 =>
      split at h
      next => cases h
      next len ws2 h2 =>
        split at h
        next attr h3 =>
          obtain ⟨hbase, rfl⟩ := Frame.take_eq_some_iff.1 h1
          obtain ⟨hlen, rfl⟩ := Frame.take_eq_some_iff.1 h2
          obtain ⟨hattr, rfl⟩ := Frame.take_eq_some_iff.1 h3
          cases h
          exact ⟨base, len, attr, ⟨hbase, hlen, hattr⟩, by simp, rfl⟩
        next => cases h
  · rintro ⟨base, len, attr, ⟨hbase, hlen, hattr⟩, rfl, rfl⟩
    have h1 := Frame.take_eq_some_iff.2 ⟨hbase, rfl (a := base.toList ++ (len.toList ++ attr.toList))⟩
    have h2 := Frame.take_eq_some_iff.2 ⟨hlen, rfl (a := len.toList ++ attr.toList)⟩
    have h3 := Frame.take_eq_some_iff.2 ⟨hattr, (List.append_nil attr.toList).symm⟩
    unfold Frame.announcesAttributes at h3
    simp only [Frame.readStage, h1, h2, h3, Frame.stageOf]

theorem Frame.readSettings_eq_some_iff {p : Port} {t : BitVec 4} {flags : BitVec 8} {ws : List Word} {i : Instr} :
    Frame.readSettings p t flags ws = some i ↔ ∃ w : Option Word,
      w.isSome = Frame.announcesSettings flags ∧ ws = w.toList ∧ i = Frame.setPortOf p t flags w := by
  constructor
  · intro h
    simp only [Frame.readSettings] at h
    split at h
    next w h1 =>
      obtain ⟨hw, rfl⟩ := Frame.take_eq_some_iff.1 h1
      cases h
      exact ⟨w, hw, by simp, rfl⟩
    next => cases h
  · rintro ⟨w, hw, rfl, rfl⟩
    have h1 := Frame.take_eq_some_iff.2 ⟨hw, (List.append_nil w.toList).symm⟩
    unfold Frame.announcesSettings at h1
    simp only [Frame.readSettings, h1, Frame.setPortOf]

theorem Frame.isSome_readStage_iff (p : Port) (flags : BitVec 8) (ws : List Word) :
    (Frame.readStage p flags ws).isSome ↔
      ws.length =
        (if flags.getLsbD 0 then 1 else 0) +
          ((if flags.getLsbD 1 then 1 else 0) + (if Frame.announcesAttributes flags then 1 else 0)) := by
  rw [Option.isSome_iff_exists]
  constructor
  · rintro ⟨i, hi⟩
    obtain ⟨base, len, attr, ⟨hbase, hlen, hattr⟩, rfl, -⟩ := Frame.readStage_eq_some_iff.1 hi
    simp only [List.length_append, Option.length_toList, hbase, hlen, hattr]
  · intro h
    obtain ⟨base, ws1, hbase, rfl, h1⟩ := Frame.exists_announced _ h
    obtain ⟨len, ws2, hlen, rfl, h2⟩ := Frame.exists_announced _ h1
    obtain ⟨attr, ws3, hattr, rfl, h3⟩ := Frame.exists_announced (n := 0) _ h2
    obtain rfl := List.eq_nil_of_length_eq_zero h3
    exact ⟨_, Frame.readStage_eq_some_iff.2 ⟨base, len, attr, ⟨hbase, hlen, hattr⟩, by simp, rfl⟩⟩

theorem Frame.isSome_readSettings_iff (p : Port) (t : BitVec 4) (flags : BitVec 8) (ws : List Word) :
    (Frame.readSettings p t flags ws).isSome ↔
      ws.length = if Frame.announcesSettings flags then 1 else 0 := by
  rw [Option.isSome_iff_exists]
  constructor
  · rintro ⟨i, hi⟩
    obtain ⟨w, hw, rfl, -⟩ := Frame.readSettings_eq_some_iff.1 hi
    rw [Option.length_toList, hw]
  · intro h
    obtain ⟨w, rest, hw, rfl, hrest⟩ := Frame.exists_announced (n := 0) _ h
    obtain rfl := List.eq_nil_of_length_eq_zero hrest
    exact ⟨_, Frame.readSettings_eq_some_iff.2 ⟨w, hw, by simp, rfl⟩⟩

/-! ### Every request (R154, R184) -/

/-- Flag n of a header is its bit 16 + n. -/
theorem Frame.getLsbD_flags (h : Word) {n : Nat} (hn : n < 8) : (Frame.flags h).getLsbD n = h.getLsbD (16 + n) := by
  simp [Frame.flags, hn]

/-- One word for any of four flags. -/
theorem Frame.ite_or_or_or (a b c d : Bool) :
    (if a || b || c || d then 1 else 0) =
      max (max (if a then 1 else 0) (if b then 1 else 0)) (max (if c then 1 else 0) (if d then 1 else 0)) := by
  revert a b c d
  decide

theorem Frame.writeLengthOk_iff (size : BitVec 3) (args : List Word) :
    Frame.writeLengthOk size args ↔
      if size.toNat ≤ 2 then args.length = 1 else if size.toNat = 3 then args.length = 2 else args.length ≤ 3 := by
  unfold Frame.writeLengthOk Frame.writeWords
  by_cases h2 : size.toNat ≤ 2
  · simp [h2]
  · by_cases h3 : size.toNat = 3 <;> simp [h2, h3]

/-- A frame is read as a request exactly when its length is one its header calls for. -/
theorem Frame.isSome_readRequest_iff (p : Port) (h : Word) (args : List Word) :
    (Frame.readRequest p h args).isSome ↔ Frame.callsFor h args.length := by
  have hgen : (Frame.flags h).getLsbD 0 = h.getLsbD 16 := Frame.getLsbD_flags h (by decide)
  simp only [Frame.readRequest, Frame.callsFor]
  split
  all_goals simp only [*]
  -- OPEN and SEEK, by the number of words and by the flag
  case h_1 =>
    rcases args with _ | ⟨_, _ | ⟨_, _ | ⟨_, _ | ⟨_, rest⟩⟩⟩⟩ <;> cases h.getLsbD 16 <;> simp
  case h_3 =>
    rcases args with _ | ⟨_, _ | ⟨_, _ | ⟨_, rest⟩⟩⟩ <;> cases h.getLsbD 16 <;> simp
  -- WRITE
  case h_5 => rw [Option.isSome_ite, Frame.writeLengthOk_iff]
  -- STAGE
  case h_10 =>
    rw [Frame.isSome_readStage_iff, ← Nat.add_assoc, Frame.announcesAttributes, Frame.ite_or_or_or]
    simp (disch := decide) only [Frame.getLsbD_flags, Nat.reduceAdd]
  -- SET_PORT
  case h_15 =>
    rw [Frame.isSome_readSettings_iff, Frame.announcesSettings, Frame.ite_or_or_or]
    simp (disch := decide) only [Frame.getLsbD_flags, Nat.reduceAdd]
  -- COMMIT, RETIRE and QUERY_SEGMENT
  case h_11 | h_12 | h_13 => rcases args with _ | ⟨_, _ | ⟨_, rest⟩⟩ <;> simp
  -- an unknown code
  case h_18 => simp
  -- the requests without argument words
  all_goals rw [Option.isSome_ite, List.isEmpty_iff, List.length_eq_zero_iff]

/-- No request is a BAD_REQUEST. -/
theorem Frame.readRequest_ne_badRequest (p : Port) (h : Word) (args frame : List Word) :
    Frame.readRequest p h args ≠ some (.badRequest p frame) := by
  intro hbad
  simp only [Frame.readRequest] at hbad
  split at hbad
  case h_10 =>
    obtain ⟨_, _, _, _, _, hi⟩ := Frame.readStage_eq_some_iff.1 hbad
    cases hi
  case h_15 =>
    obtain ⟨_, _, _, hi⟩ := Frame.readSettings_eq_some_iff.1 hbad
    cases hi
  all_goals (repeat' split at hbad) <;> cases hbad

/-- A frame read as a request is that request. -/
theorem Frame.parseFrame_of_readRequest {p : Port} {h : Word} {args : List Word} {i : Instr}
    (hi : Frame.readRequest p h args = some i) : parseFrame p (h :: args) = i := by
  simp [parseFrame, hi]

/-- A frame is a BAD_REQUEST exactly when it is read as no request. -/
theorem Frame.parseFrame_eq_badRequest_iff (p : Port) (h : Word) (args : List Word) :
    parseFrame p (h :: args) = .badRequest p (h :: args) ↔ Frame.readRequest p h args = none := by
  cases hi : Frame.readRequest p h args with
  | none => simp [parseFrame, hi]
  | some i =>
    have hne : i ≠ .badRequest p (h :: args) := by
      rintro rfl
      exact Frame.readRequest_ne_badRequest p h args _ hi
    simp [Frame.parseFrame_of_readRequest hi, hne]

/-- A WRITE of an undefined size with at most three data words is read as it stands (R184). -/
theorem Frame.parseFrame_write_of_undefined {p : Port} {h : Word} {args : List Word} (hc : Frame.code h = 0x05)
    (hz : 4 ≤ (Frame.size h).toNat) (hlen : args.length ≤ 3) :
    (Instr.write p (Frame.target h) (Frame.size h) args).wf = true ∧
      parseFrame p (h :: args) = .write p (Frame.target h) (Frame.size h) args := by
  have hok : Frame.writeLengthOk (Frame.size h) args = true := by
    rw [Frame.writeLengthOk_iff, if_neg (by omega), if_neg (by omega)]
    exact hlen
  exact ⟨hok, Frame.parseFrame_of_readRequest (by simp [Frame.readRequest, hc, hok])⟩

end Sys2Proof

namespace Sys2Proof.Machine

/-- Settles O5: a frame is read as a request exactly when its length fits, and an undefined SIZE is the field check 2
names where TARGET is in range. -/
theorem frameLengthsAreJudged : Obligations.FrameLengthsAreJudged := by
  refine ⟨fun p h args => ?_, fun p h args s hc hz hlen hr => ?_⟩
  · rw [Frame.parseFrame_eq_badRequest_iff, ← Frame.isSome_readRequest_iff p h args, Option.not_isSome_iff_eq_none]
  · obtain ⟨hwf, hparse⟩ := Frame.parseFrame_write_of_undefined (p := p) hc hz hlen
    rw [hparse]
    refine exec_of_firstOutOfRange rfl hwf hr ?_
    rw [Instr.firstOutOfRange, if_pos hz]
    split <;> rfl

end Sys2Proof.Machine
end

section
/-! ## What a request frame's unread bits do (O6)

A mask lists the bits that are read: two words that agree under it agree in every field it holds, and a field it holds
is the same in the word and in the word masked. -/

namespace Sys2Proof

/-! ### Fields under a mask -/

section
variable {w : Nat} {a b m : BitVec w} {start len i : Nat}

/-- A field that lies in a mask is untouched by it. -/
theorem extractLsb'_and_mask (a : BitVec w) (hm : m.extractLsb' start len = BitVec.allOnes len) :
    (a &&& m).extractLsb' start len = a.extractLsb' start len := by
  rw [BitVec.extractLsb'_and, hm, BitVec.and_allOnes]

theorem getLsbD_and_mask (a : BitVec w) (hm : m.getLsbD i = true) : (a &&& m).getLsbD i = a.getLsbD i := by
  rw [BitVec.getLsbD_and, hm, Bool.and_true]

/-- Words that agree under a mask agree in every field that lies in it. -/
theorem extractLsb'_eq_of_mask (h : a &&& m = b &&& m) (hm : m.extractLsb' start len = BitVec.allOnes len) :
    a.extractLsb' start len = b.extractLsb' start len := by
  rw [← extractLsb'_and_mask a hm, h, extractLsb'_and_mask b hm]

end

/-! ### Headers (R183) -/

section
variable {h g m : Word} (hagree : h &&& m = g &&& m)
include hagree

theorem Frame.code_congr (hm : Frame.code m = BitVec.allOnes 8) : Frame.code h = Frame.code g :=
  extractLsb'_eq_of_mask hagree hm

theorem Frame.target_congr (hm : Frame.target m = BitVec.allOnes 4) : Frame.target h = Frame.target g :=
  extractLsb'_eq_of_mask hagree hm

theorem Frame.size_congr (hm : Frame.size m = BitVec.allOnes 3) : Frame.size h = Frame.size g :=
  extractLsb'_eq_of_mask hagree hm

theorem Frame.param_congr (hm : Frame.param m = BitVec.allOnes 8) : Frame.param h = Frame.param g :=
  extractLsb'_eq_of_mask hagree hm

theorem Frame.flag_congr {n : Nat} (hm : (Frame.flags m).getLsbD n = true) :
    (Frame.flags h).getLsbD n = (Frame.flags g).getLsbD n := by
  have hflags : Frame.flags h &&& Frame.flags m = Frame.flags g &&& Frame.flags m := by
    simp only [Frame.flags, ← BitVec.extractLsb'_and, hagree]
  rw [← getLsbD_and_mask _ hm, hflags, getLsbD_and_mask _ hm]

end

/-- STAGE reads no flag but the six of section 10.1. -/
theorem Frame.readStage_congr {p : Port} {f g : BitVec 8} (ws : List Word)
    (h : ∀ n < 6, f.getLsbD n = g.getLsbD n) : Frame.readStage p f ws = Frame.readStage p g ws := by
  simp (disch := decide) only [Frame.readStage, h]

/-- SET_PORT reads no flag but the four of section 10.1. -/
theorem Frame.readSettings_congr {p : Port} {t : BitVec 4} {f g : BitVec 8} (ws : List Word)
    (h : ∀ n < 4, f.getLsbD n = g.getLsbD n) : Frame.readSettings p t f ws = Frame.readSettings p t g ws := by
  simp (disch := decide) only [Frame.readSettings, h]

/-- CODE is read for every request. -/
theorem Frame.code_readBits (code : Nat) : Frame.code (Frame.readBits code) = BitVec.allOnes 8 := by
  unfold Frame.readBits
  split <;> decide

/-- Headers that agree in the bits read for their code are read alike, whatever words follow. -/
theorem Frame.readRequest_congr (p : Port) {h g : Word} (args : List Word)
    (hagree : h &&& Frame.readBits (Frame.code h).toNat = g &&& Frame.readBits (Frame.code h).toNat) :
    Frame.readRequest p h args = Frame.readRequest p g args := by
  have hcode : Frame.code h = Frame.code g := Frame.code_congr hagree (Frame.code_readBits _)
  simp only [Frame.readRequest, ← hcode]
  split
  all_goals rename_i hc; simp only [hc, Frame.readBits] at hagree ⊢
  -- OPEN and SEEK
  case h_1 | h_3 =>
    rw [Frame.target_congr hagree (by decide), Frame.flag_congr hagree (n := 0) (by decide)]
  -- READ and WRITE
  case h_4 | h_5 => rw [Frame.target_congr hagree (by decide), Frame.size_congr hagree (by decide)]
  -- QUERY_CURSOR and POP
  case h_6 | h_8 => rw [Frame.target_congr hagree (by decide), Frame.param_congr hagree (by decide)]
  -- RETIRE and QUERY_SEGMENT
  case h_12 | h_13 => rw [Frame.param_congr hagree (by decide)]
  -- STAGE
  case h_10 =>
    have hread : ∀ n < 6, (Frame.flags 0x003F00FF).getLsbD n = true := by decide
    exact Frame.readStage_congr args fun n hn => Frame.flag_congr hagree (hread n hn)
  -- SET_PORT
  case h_15 =>
    have hread : ∀ n < 4, (Frame.flags 0x000F0FFF).getLsbD n = true := by decide
    rw [Frame.target_congr hagree (by decide)]
    exact Frame.readSettings_congr args fun n hn => Frame.flag_congr hagree (hread n hn)
  -- CLOSE, PUSH, RELEASE_PORT and RESET_PORT
  all_goals rw [Frame.target_congr hagree (by decide)]

/-! ### Argument words (R183) -/

/-- The argument words of a frame with every bit cleared that is not read. -/
def Frame.readArgs (h : Word) (args : List Word) : List Word :=
  List.zipWith (fun a b => a &&& b) args (Frame.argBits h)

/-- The bits of an attributes word that are read, by the flags of its fields. -/
def Frame.attributesBits (link rights depth keep : Bool) : Word :=
  (if link then 0x000000FF else 0) ||| (if rights then 0x0000FF00 else 0) ||| (if depth then 0x007F0000 else 0) |||
    (if keep then 0x01000000 else 0)

/-- The bits of a settings word that are read, by the flags of its settings. -/
def Frame.settingsBits (authority priority limit interval : Bool) : Word :=
  (if authority then 0x00000003 else 0) ||| (if priority then 0x0000000C else 0) |||
    (if limit then 0x00001F00 else 0) ||| (if interval then 0x00030000 else 0)

theorem Frame.attributesBits_fields (link rights depth keep : Bool) :
    (link = true → (Frame.attributesBits link rights depth keep).extractLsb' 0 8 = BitVec.allOnes 8) ∧
    (rights = true → (Frame.attributesBits link rights depth keep).extractLsb' 8 8 = BitVec.allOnes 8) ∧
    (depth = true → (Frame.attributesBits link rights depth keep).extractLsb' 16 7 = BitVec.allOnes 7) ∧
    (keep = true → (Frame.attributesBits link rights depth keep).getLsbD 24 = true) := by
  revert link rights depth keep
  decide

theorem Frame.settingsBits_fields (authority priority limit interval : Bool) :
    (authority = true →
      (Frame.settingsBits authority priority limit interval).extractLsb' 0 2 = BitVec.allOnes 2) ∧
    (priority = true →
      (Frame.settingsBits authority priority limit interval).extractLsb' 2 2 = BitVec.allOnes 2) ∧
    (limit = true →
      (Frame.settingsBits authority priority limit interval).extractLsb' 8 5 = BitVec.allOnes 5) ∧
    (interval = true →
      (Frame.settingsBits authority priority limit interval).extractLsb' 16 2 = BitVec.allOnes 2) := by
  revert authority priority limit interval
  decide

theorem Frame.argBits_stage {h : Word} (hc : (Frame.code h).toNat = 0x20) :
    Frame.argBits h =
      (if (Frame.flags h).getLsbD 0 then [0xFFFFFFFF] else []) ++
        ((if (Frame.flags h).getLsbD 1 then [0xFFFFFFFF] else []) ++
          [Frame.attributesBits ((Frame.flags h).getLsbD 2) ((Frame.flags h).getLsbD 3)
            ((Frame.flags h).getLsbD 4) ((Frame.flags h).getLsbD 5)]) := by
  simp (disch := decide) only [Frame.argBits, hc, Frame.attributesBits, Frame.getLsbD_flags, Nat.reduceAdd,
    List.append_assoc]

theorem Frame.argBits_setPort {h : Word} (hc : (Frame.code h).toNat = 0x40) :
    Frame.argBits h =
      [Frame.settingsBits ((Frame.flags h).getLsbD 0) ((Frame.flags h).getLsbD 1)
        ((Frame.flags h).getLsbD 2) ((Frame.flags h).getLsbD 3)] := by
  simp (disch := decide) only [Frame.argBits, hc, Frame.settingsBits, Frame.getLsbD_flags, Nat.reduceAdd]

theorem Frame.and_all (w : Word) : w &&& 0xFFFFFFFF = w := BitVec.and_allOnes

/-- Words under masks that hold every bit. -/
theorem Frame.zipWith_and_all (ws : List Word) {n : Nat} (h : ws.length ≤ n) :
    List.zipWith (fun a b => a &&& b) ws (List.replicate n 0xFFFFFFFF) = ws := by
  induction ws generalizing n with
  | nil => simp
  | cons w rest ih =>
    obtain ⟨k, rfl⟩ : ∃ k, n = k + 1 := Nat.exists_eq_add_one_of_ne_zero (by simp at h; omega)
    rw [List.replicate_succ, List.zipWith_cons_cons, ih (by simpa using h), Frame.and_all]

/-- An announced word under a mask that holds every bit. -/
theorem Frame.zipWith_and_announced (w : Option Word) (rest ms : List Word) :
    List.zipWith (fun a b => a &&& b) (w.toList ++ rest) ((if w.isSome then [0xFFFFFFFF] else []) ++ ms) =
      w.toList ++ List.zipWith (fun a b => a &&& b) rest ms := by
  cases w with
  | none => rfl
  | some x => exact congrArg (· :: _) (Frame.and_all x)

/-- The last word under its mask. -/
theorem Frame.zipWith_and_last (w : Option Word) (m : Word) :
    List.zipWith (fun a b => a &&& b) w.toList [m] = (w.map (· &&& m)).toList := by
  cases w <;> rfl

/-- A field that its mask holds where its flag is set. -/
theorem Frame.field_map_and {α : Type} {flag : Bool} {m : Word} {get : Word → α} (w : Option Word)
    (h : flag = true → ∀ a, get (a &&& m) = get a) :
    Frame.field flag (w.map (· &&& m)) get = Frame.field flag w get := by
  cases flag with
  | false => rfl
  | true => cases w <;> simp [Frame.field, h]

/-- STAGE reads of its attributes word the fields whose flags are set. -/
theorem Frame.stageOf_map_and (p : Port) (flags : BitVec 8) (base len attr : Option Word) :
    Frame.stageOf p flags base len (attr.map (· &&& Frame.attributesBits (flags.getLsbD 2) (flags.getLsbD 3)
      (flags.getLsbD 4) (flags.getLsbD 5))) = Frame.stageOf p flags base len attr := by
  obtain ⟨hlink, hrights, hdepth, hkeep⟩ := Frame.attributesBits_fields (flags.getLsbD 2) (flags.getLsbD 3)
    (flags.getLsbD 4) (flags.getLsbD 5)
  unfold Frame.stageOf
  rw [Frame.field_map_and attr fun hf a => extractLsb'_and_mask a (hlink hf),
    Frame.field_map_and attr fun hf a => extractLsb'_and_mask a (hrights hf),
    Frame.field_map_and attr fun hf a => extractLsb'_and_mask a (hdepth hf),
    Frame.field_map_and attr fun hf a => getLsbD_and_mask a (hkeep hf)]

/-- SET_PORT reads of its settings word the settings whose flags are set. -/
theorem Frame.setPortOf_map_and (p : Port) (t : BitVec 4) (flags : BitVec 8) (w : Option Word) :
    Frame.setPortOf p t flags (w.map (· &&& Frame.settingsBits (flags.getLsbD 0) (flags.getLsbD 1)
      (flags.getLsbD 2) (flags.getLsbD 3))) = Frame.setPortOf p t flags w := by
  obtain ⟨hauthority, hpriority, hlimit, hinterval⟩ := Frame.settingsBits_fields (flags.getLsbD 0) (flags.getLsbD 1)
    (flags.getLsbD 2) (flags.getLsbD 3)
  unfold Frame.setPortOf
  rw [Frame.field_map_and w fun hf a => extractLsb'_and_mask a (hauthority hf),
    Frame.field_map_and w fun hf a => extractLsb'_and_mask a (hpriority hf),
    Frame.field_map_and w fun hf a => extractLsb'_and_mask a (hlimit hf),
    Frame.field_map_and w fun hf a => extractLsb'_and_mask a (hinterval hf)]

theorem Frame.readStage_readArgs {p : Port} {h : Word} {args : List Word} {i : Instr}
    (hc : (Frame.code h).toNat = 0x20) (hi : Frame.readStage p (Frame.flags h) args = some i) :
    Frame.readStage p (Frame.flags h) (Frame.readArgs h args) = some i := by
  obtain ⟨base, len, attr, ⟨hbase, hlen, hattr⟩, rfl, rfl⟩ := Frame.readStage_eq_some_iff.1 hi
  refine Frame.readStage_eq_some_iff.2 ⟨base, len, _, ⟨hbase, hlen, ?_⟩, ?_, (Frame.stageOf_map_and ..).symm⟩
  · rw [Option.isSome_map, hattr]
  · rw [Frame.readArgs, Frame.argBits_stage hc, ← hbase, Frame.zipWith_and_announced, ← hlen,
      Frame.zipWith_and_announced, Frame.zipWith_and_last]

theorem Frame.readSettings_readArgs {p : Port} {t : BitVec 4} {h : Word} {args : List Word} {i : Instr}
    (hc : (Frame.code h).toNat = 0x40) (hi : Frame.readSettings p t (Frame.flags h) args = some i) :
    Frame.readSettings p t (Frame.flags h) (Frame.readArgs h args) = some i := by
  obtain ⟨w, hw, rfl, rfl⟩ := Frame.readSettings_eq_some_iff.1 hi
  refine Frame.readSettings_eq_some_iff.2 ⟨_, ?_, ?_, (Frame.setPortOf_map_and ..).symm⟩
  · rw [Option.isSome_map, hw]
  · rw [Frame.readArgs, Frame.argBits_setPort hc, Frame.zipWith_and_last]

/-- A WRITE has at most three data words (R184). -/
theorem Frame.length_le_of_writeLengthOk {size : BitVec 3} {args : List Word}
    (h : Frame.writeLengthOk size args = true) : args.length ≤ 3 := by
  rw [Frame.writeLengthOk_iff] at h
  split at h
  · omega
  · split at h <;> omega

/-- A request is read from the bits of its argument words that argBits lists. -/
theorem Frame.readRequest_readArgs {p : Port} {h : Word} {args : List Word} {i : Instr}
    (hi : Frame.readRequest p h args = some i) : Frame.readRequest p h (Frame.readArgs h args) = some i := by
  simp only [Frame.readRequest] at hi ⊢
  split at hi
  all_goals rename_i hc
  -- STAGE and SET_PORT
  case h_10 => exact Frame.readStage_readArgs hc hi
  case h_15 => exact Frame.readSettings_readArgs hc hi
  -- an unknown code
  case h_18 => cases hi
  all_goals simp only [Frame.readArgs, Frame.argBits, hc]
  -- OPEN and SEEK
  case h_1 | h_3 =>
    split at hi
    case h_3 => cases hi
    all_goals
      simpa (disch := decide) only [List.zipWith_cons_cons, List.zipWith_nil_left, extractLsb'_and_mask,
        Frame.and_all] using hi
  -- COMMIT, RETIRE and QUERY_SEGMENT
  case h_11 | h_12 | h_13 =>
    split at hi
    case h_2 => cases hi
    simpa (disch := decide) only [List.zipWith_cons_cons, List.zipWith_nil_left, extractLsb'_and_mask] using hi
  -- WRITE
  case h_5 =>
    obtain ⟨hok, -⟩ := Option.ite_none_right_eq_some.1 hi
    rwa [show [0xFFFFFFFF, 0xFFFFFFFF, 0xFFFFFFFF] = List.replicate 3 (0xFFFFFFFF : Word) from rfl,
      Frame.zipWith_and_all args (Frame.length_le_of_writeLengthOk hok)]
  -- the requests without argument words
  all_goals
    rw [List.zipWith_nil_right]
    exact (Option.ite_none_right_eq_some.1 hi).2

/-- Frames of one header and of a length it calls for, that agree in the bits read in their argument words, are read as
one command. -/
theorem Frame.readRequest_eq_of_readArgs (p : Port) {h : Word} {args others : List Word}
    (hcalls : Frame.callsFor h args.length) (hlen : others.length = args.length)
    (hagree : Frame.readArgs h args = Frame.readArgs h others) :
    ∃ i, Frame.readRequest p h args = some i ∧ Frame.readRequest p h others = some i := by
  obtain ⟨i, hi⟩ := Option.isSome_iff_exists.1 ((Frame.isSome_readRequest_iff p h args).2 hcalls)
  obtain ⟨j, hj⟩ := Option.isSome_iff_exists.1 ((Frame.isSome_readRequest_iff p h others).2 (hlen ▸ hcalls))
  have hread := Frame.readRequest_readArgs hi
  rw [hagree, Frame.readRequest_readArgs hj] at hread
  exact ⟨i, hi, hj.trans hread⟩

end Sys2Proof

namespace Sys2Proof.Machine

/-! ### The datum of a WRITE (R154, R183) -/

/-- The low bytes of a word lie in its low bits. -/
theorem lowBytes_extractLsb' {w : Nat} (v : BitVec w) (n : Nat) :
    lowBytes (v.extractLsb' 0 (8 * n)) n = lowBytes v n := by
  refine List.map_congr_left fun i hi => ?_
  have hin : i < n := List.mem_range.1 hi
  apply BitVec.eq_of_getLsbD_eq
  intro k hk
  have hbit : 8 * i + k < 8 * n := by omega
  simp [hk, hbit]

/-- A WRITE of one word takes its datum and nothing above it. -/
theorem writeBytes_eq_of_datum {z : AccessSize} {w v : Word} (hz : z.bytes ≤ 4)
    (h : w.extractLsb' 0 (8 * z.bytes) = v.extractLsb' 0 (8 * z.bytes)) : writeBytes z [w] = writeBytes z [v] := by
  rw [writeBytes_one z w hz, writeBytes_one z v hz, ← lowBytes_extractLsb' w, h, lowBytes_extractLsb']

/-- A WRITE past the general checks depends on its data words through the bytes it takes of them. -/
theorem writeBody_congr {id : CursorId} {size : AccessSize} {data others : List Word}
    (h : writeBytes size data = writeBytes size others) : writeBody id size data = writeBody id size others := by
  funext s
  simp only [writeBody, writeAccept, postEntry, h]

theorem bytes_accessSize_le {size : BitVec 3} (h : size.toNat ≤ 2) : (accessSize size).bytes ≤ 4 := by
  revert size
  decide

/-- On a ready link a request is served for its checks and its body alone. -/
theorem serve_congr {i j : Instr} {p : Port} {field : Option ArgField} {tb qt : Bool}
    {body : State → State × Response} {s : State} (hr : s.requestReady p = true) :
    serve i p field tb qt body s = serve j p field tb qt body s := by
  simp [serve, hr]

/-- WRITEs of as many data words, with the same bytes taken of them. -/
theorem exec_write_congr {p : Port} {target : BitVec 4} {size : BitVec 3} {data others : List Word} {s : State}
    (hr : s.requestReady p = true) (hform : Frame.writeLengthOk size data = true)
    (hform' : Frame.writeLengthOk size others = true)
    (h : writeBytes (accessSize size) data = writeBytes (accessSize size) others) :
    exec (.write p target size data) s = exec (.write p target size others) s := by
  simp only [exec, execWrite, hform, hform', if_true, writeBody_congr h]
  exact serve_congr hr

/-- Settles O6: the header is read in the bits of readBits, the argument words in those of argBits, and a WRITE takes
the bytes of its datum. -/
theorem unusedHeaderBitsAreIgnored : Obligations.UnusedHeaderBitsAreIgnored := by
  refine ⟨fun p h g args others hheader hlen hargs hcalls => ?_, fun p target size w v s hr hz hdatum => ?_⟩
  · obtain ⟨i, hi, hj⟩ := Frame.readRequest_eq_of_readArgs p hcalls hlen hargs
    rw [Frame.readRequest_congr p others hheader] at hj
    rw [Frame.parseFrame_of_readRequest hi, Frame.parseFrame_of_readRequest hj]
  · have hform : ∀ x : Word, Frame.writeLengthOk size [x] = true := fun x => by
      rw [Frame.writeLengthOk_iff, if_pos hz]; rfl
    exact exec_write_congr hr (hform w) (hform v) (writeBytes_eq_of_datum (bytes_accessSize_le hz) hdatum)

end Sys2Proof.Machine
end

section
/-! ## The frame of a request reads back (O7)

Each argument word holds in its fields the operands it was built of, and the flags of the header say which of them are
there, so that what a request's frame is read as has the request's own operands. -/

namespace Sys2Proof

/-! ### The fields of the argument words (section 10.1) -/

/-- The word of a segment, a generation or a stride. -/
theorem Frame.lowWord_field {n : Nat} (v : BitVec n) (hn : n ≤ 32) : (Frame.lowWord v).extractLsb' 0 n = v := by
  rw [Frame.lowWord, ← BitVec.setWidth_eq_extractLsb' hn, BitVec.setWidth_setWidth_of_le v hn, BitVec.setWidth_eq]

/-- OPEN's placement word, its reserved bits as simp writes them. -/
theorem Frame.placementWord_fields (segment : BitVec 8) (stride : BitVec 16) :
    (0#8 ++ segment ++ stride).extractLsb' 0 16 = stride ∧
      (0#8 ++ segment ++ stride).extractLsb' 16 8 = segment := by
  refine ⟨?_, ?_⟩ <;>
    simp (disch := omega) only [BitVec.extractLsb'_append_eq_of_add_le, BitVec.extractLsb'_append_eq_of_le,
      BitVec.extractLsb'_eq_self, Nat.sub_self]

/-- STAGE's attributes word. -/
theorem Frame.attributesWord_fields (link rights : Option (BitVec 8)) (depth : Option (BitVec 7))
    (keep : Option Bool) :
    (Frame.attributesWord link rights depth keep).extractLsb' 0 8 = link.getD 0 ∧
      (Frame.attributesWord link rights depth keep).extractLsb' 8 8 = rights.getD 0 ∧
      (Frame.attributesWord link rights depth keep).extractLsb' 16 7 = depth.getD 0 ∧
      (Frame.attributesWord link rights depth keep).getLsbD 24 = keep.getD false := by
  unfold Frame.attributesWord
  refine ⟨?_, ?_, ?_, ?_⟩
  case refine_4 => simp only [BitVec.getLsbD_append]; simp
  all_goals
    simp (disch := omega) only [BitVec.extractLsb'_append_eq_of_add_le, BitVec.extractLsb'_append_eq_of_le,
      BitVec.extractLsb'_eq_self, Nat.sub_self]

/-- SET_PORT's settings word. -/
theorem Frame.settingsWord_fields (authority priority : Option (BitVec 2)) (limit : Option (BitVec 5))
    (interval : Option (BitVec 2)) :
    (Frame.settingsWord authority priority limit interval).extractLsb' 0 2 = authority.getD 0 ∧
      (Frame.settingsWord authority priority limit interval).extractLsb' 2 2 = priority.getD 0 ∧
      (Frame.settingsWord authority priority limit interval).extractLsb' 8 5 = limit.getD 0 ∧
      (Frame.settingsWord authority priority limit interval).extractLsb' 16 2 = interval.getD 0 := by
  unfold Frame.settingsWord
  refine ⟨?_, ?_, ?_, ?_⟩ <;>
    simp (disch := omega) only [BitVec.extractLsb'_append_eq_of_add_le, BitVec.extractLsb'_append_eq_of_le,
      BitVec.extractLsb'_eq_self, Nat.sub_self]

/-- The first flag, as simp writes a bit. -/
@[simp] theorem Frame.getElem_flagBits_zero (b0 b1 b2 b3 b4 b5 : Bool) : (Frame.flagBits b0 b1 b2 b3 b4 b5)[0] = b0 :=
  (Frame.flagBits_bits b0 b1 b2 b3 b4 b5).1

/-- An optional operand is read back from a word sent whenever the operand is there, out of a field that holds it. -/
theorem Frame.field_announced {α : Type} {sent : Bool} {w : Word} {get : Word → α} {d : α} (operand : Option α)
    (hsent : operand.isSome = true → sent = true) (hget : get w = operand.getD d) :
    Frame.field operand.isSome (if sent then some w else none) get = operand := by
  cases operand with
  | none => rfl
  | some v => simp [Frame.field, hsent, hget]

theorem Frame.toList_announced (sent : Bool) (w : Word) :
    (if sent then [w] else []) = (if sent then some w else none).toList := by
  cases sent <;> rfl

theorem Frame.isSome_announced (sent : Bool) (w : Word) : (if sent then some w else none).isSome = sent := by
  cases sent <;> rfl

/-! ### Each request with argument words -/

theorem Frame.readRequest_open (p : Port) (t : BitVec 4) (stride : BitVec 16) (segment : BitVec 8) (offset : Word)
    (generation : Option (BitVec 8)) :
    Frame.readRequest p (Frame.header 0x01 t 0 (Frame.flagBits generation.isSome false false false false false) 0)
      (((0 : BitVec 8) ++ segment ++ stride) :: offset :: (generation.map Frame.lowWord).toList) =
        some (.openCursor p t stride segment offset generation) := by
  cases generation with
  | none => simp [Frame.readRequest, Frame.placementWord_fields]
  | some g => simp [Frame.readRequest, Frame.placementWord_fields, Frame.lowWord_field]

theorem Frame.readRequest_seek (p : Port) (t : BitVec 4) (offset : Word) (stride : Option (BitVec 16)) :
    Frame.readRequest p (Frame.header 0x03 t 0 (Frame.flagBits stride.isSome false false false false false) 0)
      (offset :: (stride.map Frame.lowWord).toList) = some (.seek p t offset stride) := by
  cases stride with
  | none => simp [Frame.readRequest]
  | some v => simp [Frame.readRequest, Frame.lowWord_field]

/-- The words of a STAGE, under the flags of its operands, are that STAGE. -/
theorem Frame.readStage_words (p : Port) (base length : Option Word) (link rights : Option (BitVec 8))
    (depth : Option (BitVec 7)) (keep : Option Bool) :
    Frame.readStage p
      (Frame.flagBits base.isSome length.isSome link.isSome rights.isSome depth.isSome keep.isSome)
      (base.toList ++ length.toList ++
        (if link.isSome || rights.isSome || depth.isSome || keep.isSome then
          [Frame.attributesWord link rights depth keep] else [])) =
      some (.stage p base length link rights depth keep) := by
  obtain ⟨f0, f1, f2, f3, f4, f5⟩ := Frame.flagBits_bits base.isSome length.isSome link.isSome rights.isSome
    depth.isSome keep.isSome
  obtain ⟨hlink, hrights, hdepth, hkeep⟩ := Frame.attributesWord_fields link rights depth keep
  rw [Frame.toList_announced, List.append_assoc]
  refine Frame.readStage_eq_some_iff.2 ⟨base, length, _, ⟨f0.symm, f1.symm, ?_⟩, rfl, ?_⟩
  · rw [Frame.isSome_announced, Frame.announcesAttributes, f2, f3, f4, f5]
  · rw [Frame.stageOf, f2, f3, f4, f5, Frame.field_announced link ?_ hlink,
      Frame.field_announced rights ?_ hrights, Frame.field_announced depth ?_ hdepth,
      Frame.field_announced keep ?_ hkeep]
    -- each of the four operands has the word sent
    all_goals intro hthere; simp [hthere]

/-- The word of a SET_PORT, under the flags of its settings, is that SET_PORT. -/
theorem Frame.readSettings_words (p : Port) (t : BitVec 4) (authority priority : Option (BitVec 2))
    (limit : Option (BitVec 5)) (interval : Option (BitVec 2)) :
    Frame.readSettings p t
      (Frame.flagBits authority.isSome priority.isSome limit.isSome interval.isSome false false)
      (if authority.isSome || priority.isSome || limit.isSome || interval.isSome then
        [Frame.settingsWord authority priority limit interval] else []) =
      some (.setPort p t authority priority limit interval) := by
  obtain ⟨f0, f1, f2, f3, -⟩ := Frame.flagBits_bits authority.isSome priority.isSome limit.isSome interval.isSome
    false false
  obtain ⟨hauthority, hpriority, hlimit, hinterval⟩ := Frame.settingsWord_fields authority priority limit interval
  rw [Frame.toList_announced]
  refine Frame.readSettings_eq_some_iff.2 ⟨_, ?_, rfl, ?_⟩
  · rw [Frame.isSome_announced, Frame.announcesSettings, f0, f1, f2, f3]
  · rw [Frame.setPortOf, f0, f1, f2, f3, Frame.field_announced authority ?_ hauthority,
      Frame.field_announced priority ?_ hpriority, Frame.field_announced limit ?_ hlimit,
      Frame.field_announced interval ?_ hinterval]
    -- each of the four settings has the word sent
    all_goals intro hthere; simp [hthere]

end Sys2Proof

namespace Sys2Proof.Machine

/-- Settles O7, by the command: the header gives back the operands it holds, and the argument words theirs. -/
theorem frameOfEveryRequestReadsBack : Obligations.FrameOfEveryRequestReadsBack := by
  intro i p frame hwf henc
  cases i
  case badRequest =>
    simp only [Instr.wf, Bool.and_eq_true, decide_eq_true_eq] at hwf
    obtain ⟨-, hparse⟩ := hwf
    cases henc
    exact hparse
  -- the events have no frame
  case placementService | grant | responseFirstBeat | memoryResponse | lateOrStrayResponse | responseTimerExpiry |
      discardTimerExpiry | deviceReset | responseLastWordPassed => cases henc
  all_goals cases henc; apply Frame.parseFrame_of_readRequest
  case openCursor => exact Frame.readRequest_open ..
  case seek => exact Frame.readRequest_seek ..
  case write =>
    rw [Instr.wf] at hwf
    simp [Frame.readRequest, hwf]
  case stage => simpa [Frame.readRequest] using Frame.readStage_words ..
  case setPort => simpa [Frame.readRequest] using Frame.readSettings_words ..
  case commit | retire | querySegment => simp [Frame.readRequest, Frame.lowWord_field]
  -- the requests of a header alone
  all_goals simp [Frame.readRequest]

end Sys2Proof.Machine
end
